-- ==== Sys2Proof/Word.lean ====
section
/-! DEFINITION. The word types of the device (local time, frame number) and the small containers the
state is built from: one value per subscription, one value per port. -/

namespace Sys2Proof

/-- Local time: a 48-bit count of reference ticks that wraps at 2^48 (section 0-4, R1). -/
abbrev LT := BitVec 48

/-- Frame number 0 to 4095, wrapping (section 0-4). -/
abbrev FN := BitVec 12

/-- The two subscriptions of the handset. -/
inductive Subscription where
  | A
  | B
  deriving DecidableEq, Repr

/-- "The other subscription". -/
def Subscription.other : Subscription → Subscription
  | .A => .B
  | .B => .A

/-- The three ports: Stack Port A, Stack Port B, the Application Port. -/
inductive Port where
  | A
  | B
  | P
  deriving DecidableEq, Repr

/-- The stack port of a subscription. -/
def Subscription.port : Subscription → Port
  | .A => .A
  | .B => .B

/-- The subscription a stack port acts for; none for the Application Port. -/
def Port.subscription : Port → Option Subscription
  | .A => some .A
  | .B => some .B
  | .P => none

/-- One value for each subscription. -/
structure PerSub (α : Type) where
  a : α
  b : α
  deriving DecidableEq, Repr

def PerSub.get {α : Type} (p : PerSub α) : Subscription → α
  | .A => p.a
  | .B => p.b

def PerSub.set {α : Type} (p : PerSub α) (x : Subscription) (v : α) : PerSub α :=
  match x with
  | .A => { p with a := v }
  | .B => { p with b := v }

def PerSub.upd {α : Type} (p : PerSub α) (x : Subscription) (f : α → α) : PerSub α :=
  p.set x (f (p.get x))

/-- One value for each port. -/
structure PerPort (α : Type) where
  a : α
  b : α
  p : α
  deriving DecidableEq, Repr

def PerPort.get {α : Type} (t : PerPort α) : Port → α
  | .A => t.a
  | .B => t.b
  | .P => t.p

def PerPort.set {α : Type} (t : PerPort α) (q : Port) (v : α) : PerPort α :=
  match q with
  | .A => { t with a := v }
  | .B => { t with b := v }
  | .P => { t with p := v }

def PerPort.upd {α : Type} (t : PerPort α) (q : Port) (f : α → α) : PerPort α :=
  t.set q (f (t.get q))

end Sys2Proof
end

