-- ==== Sys2Proof/Config.lean ====
section
/-! DEFINITION. The figures the manual fixes for the device (section 0-5 and the rules named), and the one
free value of the model. -/

namespace Sys2Proof.Config

/-- A frame is 260,000 ticks (section 0-4). -/
def frameTicks : Nat := 260000
/-- Preparation lead: 6,500 ticks before the local start (R45, R73). -/
def prepareLead : Nat := 6500
/-- One-shot horizon: 1024 frames, in frames and in ticks (R8). -/
def horizonFrames : Nat := 1024
def horizonTicks : Nat := 266240000
/-- A reservation lasts 1,300 to 520,000 ticks (R38). -/
def minLength : Nat := 1300
def maxLength : Nat := 520000
/-- The plan holds 48 entries, at most 20 of them one-shots of one subscription (R40). -/
def planCapacity : Nat := 48
def oneShotQuota : Nat := 20
/-- Largest slew either way (R10). -/
def maxSlew : Int := 2600
/-- A trim step above this from the reference trim marks K suspect (R17). -/
def trimStep : Nat := 64
/-- A command not acknowledged within 260 ticks is a link fault (R69). -/
def linkTimeout : Nat := 260
/-- Ticks between probes in RADIO_DOWN (R81, R83). -/
def probeInterval : Nat := 2080000
/-- Transceiver power-up lead and standby exit lead (R70). -/
def powerUpLead : Nat := 52000
def standbyLead : Nat := 13000
/-- Wake leads on the plan: from STANDBY and from DOWN (R166). -/
def dozeLead : Nat := 19500
def slumberLead : Nat := 71500
/-- The power state is ACTIVE from this many ticks before the activity need (R165). -/
def activeLead : Nat := 26000
/-- One neighbour window beyond its retuning (R76, R134). -/
def neighbourWindow : Nat := 13000
/-- Ticks of the reference in one second: the calibration interval is given in seconds (R167, R175). -/
def second : Nat := 26000000
/-- A notice queue holds at most 16 notices and a fetch returns at most four (R191, R192). -/
def queueCapacity : Nat := 16
def fetchLimit : Nat := 4
/-- A neighbour ring holds at most 16 records (R128); a bank at most 8 (R141). -/
def ringCapacity : Nat := 16
def bankCapacity : Nat := 8
/-- The oscillator must stay off for at least 16 cycles beyond the settle cycles (R168, test 6). -/
def slumberMargin : Nat := 16
/-- The count of missed pages stays at 65,535 (R101). -/
def missedLimit : Nat := 65535
/-- Received levels lie in -300 to -40 half-decibels (section 0-4). -/
def levelMin : Int := -300
def levelMax : Int := -40
/-- Transmit levels lie in -40 to +24 dBm (section 0-4). -/
def txMin : Int := -40
def txMax : Int := 24
/-- Guard values lie in 0 to 26,000 ticks (R44). -/
def maxGuard : Nat := 26000
/-- A lease not given at START_CALL is taken as 200 frames (R112). -/
def defaultLease : Nat := 200

/-- FREE VALUE (log 2). Where several of the device's own events fall together and the rules say that
either may be taken first, `pick n` applied to the counter `State.free` chooses one. It has no body: no
proof can see it, and a claim about a run holds whatever it is. -/
opaque pick : Nat → Nat

end Sys2Proof.Config
end

