-- ==== Sys2Proof/Syntax.lean ====
section
/-! DEFINITION. The commands the device takes: `Instr` has one constructor per row of
spec/opcode_table.json, in the table's order. A request of a port (chapter 10) is also a value of `Request`,
the form in which a port engine holds it between the end of its frame and its taking. -/

namespace Sys2Proof

/-- A request field that may be left out, or may carry a value that names nothing. The manual gives most
coded fields no codes (section 10-7), so the code is not modelled, only what it names. -/
inductive Coded (α : Type) where
  /-- the field is marked absent -/
  | absent
  /-- the field holds a value that names none of the choices -/
  | unknown
  | val (v : α)
  deriving DecidableEq, Repr

/-- Kinds of plan entry (R38). -/
inductive Kind where
  | search | measureGap | listen | pageRead | exchRx | exchTx | callRx | callTx | sync
  deriving DecidableEq, Repr

/-- Exchange purposes (R19). -/
inductive Purpose where
  | textIn | textOut | callSetup | signalling
  deriving DecidableEq, Repr

/-- What a stack found in a page read (R98). -/
inductive PageOutcome where
  | none | call | text
  deriving DecidableEq, Repr

/-- The standing patterns (R21, R59). -/
inductive Pat where
  | page | call | meas
  deriving DecidableEq, Repr

/-- A paging configuration (R86); STAGE_PAGING carries all of it. -/
structure PagingConfig where
  cycle : Nat
  frame : Nat
  listenFp : Nat
  listenLen : Nat
  index : Nat
  tA : Nat
  tP : Nat
  readOffset : Nat
  readFp : Nat
  readLen : Nat
  deriving DecidableEq, Repr

/-- A call pattern (R109). `marks` has bit i set when position i is marked. -/
structure CallPattern where
  marks : BitVec 8
  rxFp : Nat
  rxLen : Nat
  txFp : Nat
  txLen : Nat
  txLevel : Int
  deriving DecidableEq, Repr

/-- CAMP (R24): serving cell and anchor. -/
structure CampBody where
  tag : Nat
  channel : Nat
  fn : Nat
  lt : LT
  deriving DecidableEq, Repr

/-- RESELECT (R160). -/
structure ReselectBody where
  tag : Nat
  channel : Nat
  fnS : Nat
  fnNew : Nat
  deriving DecidableEq, Repr

/-- HANDOVER_ARM (R148). -/
structure ArmBody where
  tag : Nat
  channel : Nat
  fnS : Nat
  fnNew : Nat
  sync : Nat
  limit : Nat
  deriving DecidableEq, Repr

/-- RESERVE, in the layout of section 10-7. `kind` is none for a byte that names no kind; `start` is bytes 2
to 7: in form 0 the frame number, the frame position and a zero byte, in form 1 the 48-bit LT. -/
structure ReserveBody where
  kind : Option Kind
  form : BitVec 8
  start : BitVec 48
  length : BitVec 24
  channel : BitVec 16
  txLevel : BitVec 8
  deriving DecidableEq, Repr

/-- SET_MEAS (R125); a setting that is not given is none. -/
structure MeasBody where
  period : Nat
  fp : Nat
  length : Nat
  k : Option Nat
  hysteresis : Option Nat
  n : Option Nat
  threshold : Option Nat
  mask0 : Option Nat
  mask1 : Option Nat
  mask2 : Option Nat
  mask3 : Option Nat
  deriving DecidableEq, Repr

/-- One neighbour as SET_NEIGHBOURS and ADD_NEIGHBOUR give it (R129). -/
structure NeighbourSpec where
  tag : Nat
  channel : Nat
  cls : Nat
  offset : Option Int
  deriving DecidableEq, Repr

/-- SET_POLICY (R175); an omitted field is absent. -/
structure PolicyBody where
  slumber : Coded Bool
  thrift : Coded Bool
  anchor : Coded Subscription
  c : Option Nat
  creditMax : Option Nat
  refillFrames : Option Nat
  gRetune : Option Nat
  gTurn : Option Nat
  interval : Option Nat
  settle : Option Nat
  deriving DecidableEq, Repr

/-- A request of the catalogue of section 10-3, with its body. -/
inductive Request where
  | activate
  | deactivate
  | camp (b : CampBody)
  | reselect (b : ReselectBody)
  | loseService
  | adjustTiming (delta : Int)
  | trim (word : Nat)
  | readTime
  | readContext (who : Coded Subscription)
  | stagePaging (c : PagingConfig)
  | pageResult (r : Option PageOutcome)
  | reserve (b : ReserveBody)
  | cancel (slot gen : BitVec 8)
  | enterExchange (p : Option Purpose) (timer : Nat)
  | renewExchange (p : Coded Purpose) (timer : Nat)
  | leaveExchange
  | startCall (p : CallPattern) (lease : Nat)
  | modifyCall (p : CallPattern)
  | renewHold (lease : Nat)
  | endCall
  | setMeas (b : MeasBody)
  | setNeighbours (l : List NeighbourSpec)
  | addNeighbour (r : NeighbourSpec)
  | removeNeighbour (tag channel : Nat)
  | setClass (tag channel cls : Nat)
  | readBank
  | releaseBank
  | ackCandidate (tag : Nat) (channel : Option Nat)
  | handoverArm (b : ArmBody)
  | handoverCancel
  | handoverConfirm
  | handoverFail
  | readPlan (start : Nat)
  | readPower
  | clearBattery
  | startCal
  | setPolicy (b : PolicyBody)
  | setVote
  | clearVote
  | fetchNotices
  | portReset
  deriving DecidableEq, Repr

/-- The command kinds that RCL_ACK may name (R69); READ_REPORT, TRIM and PROBE have rows of their own. -/
inductive AckKind where
  | powerUp | standby | powerDown | tune | on | off
  deriving DecidableEq, Repr

/-- The commands of the device, one constructor per row of spec/opcode_table.json. `x` is the subscription
of the stack port that asks, or the subscription an event belongs to; `q` is a port. -/
inductive Instr where
  | activate (x : Subscription)
  | deactivate (x : Subscription)
  | camp (x : Subscription) (b : CampBody)
  | reselect (x : Subscription) (b : ReselectBody)
  | loseService (x : Subscription)
  | adjustTiming (x : Subscription) (delta : Int)
  | trim (x : Subscription) (word : Nat)
  | readTime (q : Port)
  | readContext (q : Port) (who : Coded Subscription)
  | stagePaging (x : Subscription) (c : PagingConfig)
  | pageResult (x : Subscription) (r : Option PageOutcome)
  | reserve (x : Subscription) (b : ReserveBody)
  | cancel (x : Subscription) (slot gen : BitVec 8)
  | enterExchange (x : Subscription) (p : Option Purpose) (timer : Nat)
  | renewExchange (x : Subscription) (p : Coded Purpose) (timer : Nat)
  | leaveExchange (x : Subscription)
  | startCall (x : Subscription) (p : CallPattern) (lease : Nat)
  | modifyCall (x : Subscription) (p : CallPattern)
  | renewHold (x : Subscription) (lease : Nat)
  | endCall (x : Subscription)
  | setMeas (x : Subscription) (b : MeasBody)
  | setNeighbours (x : Subscription) (l : List NeighbourSpec)
  | addNeighbour (x : Subscription) (r : NeighbourSpec)
  | removeNeighbour (x : Subscription) (tag channel : Nat)
  | setClass (x : Subscription) (tag channel cls : Nat)
  | readBank (x : Subscription)
  | releaseBank (x : Subscription)
  | ackCandidate (x : Subscription) (tag : Nat) (channel : Option Nat)
  | handoverArm (x : Subscription) (b : ArmBody)
  | handoverCancel (x : Subscription)
  | handoverConfirm (x : Subscription)
  | handoverFail (x : Subscription)
  | readPlan (start : Nat)
  | readPower
  | clearBattery
  | startCal
  | setPolicy (b : PolicyBody)
  | setVote (q : Port)
  | clearVote (q : Port)
  | fetchNotices (q : Port)
  | portReset (x : Subscription)
  | appPortReset
  | transactionStart (q : Port)
  /-- `req` is the request the frame spells, none for a kind that is in no port's catalogue; `len` is the
  frame's body-length field. -/
  | requestFrameComplete (q : Port) (tag len : BitVec 8) (req : Option Request)
  | transactionEnd (q : Port)
  /-- `level` is the level the WAKE line takes: true for the assertion the row names, false when the
  processor lets the line go (log 6). -/
  | wakeAsserted (q : Port) (level : Bool)
  | resetNAsserted
  | bringUp
  | firstRefTick
  | frameStart (x : Subscription)
  | fallbackFrameStart
  | exchangeDeadline (x : Subscription)
  | leaseDeadline (x : Subscription)
  | confirmDeadline (x : Subscription)
  | prepareEntry
  | entryStart
  | entryEnd
  | gapWindowTune
  | gapWindowOn
  | gapWindowEnd
  | lostOccurrenceEnd (x : Subscription) (p : Pat)
  | probeTime
  | calDue
  | wakeTarget
  | activityNeedReached
  | rclAck (kind : AckKind)
  /-- the window report as the transceiver sends it, before clamping (R78) -/
  | readReportAck (level metric : Int)
  | trimAck
  | probeAck
  | linkFault
  | slumberEntry
  | stopEdge
  | enableCycle
  | earlyWake
  | slumberEnd
  | calStart
  | calEnd
  /-- the levels of the two comparator inputs at the sample (R180) -/
  | batterySample (low critical : Bool)
  deriving DecidableEq, Repr

end Sys2Proof
end

