-- ==== Sys2Proof/Machine/State.lean ====
section
/-! DEFINITION. The state of the device, block by block (section 0-2), its value after reset, and the reasons
a step could stop. Everything is plain data. -/

namespace Sys2Proof.Machine

/-! ### Timebase Unit (chapter 1) -/

/-- A timebase record (section 1-2). A record that is absent is `none` where it is held. -/
structure Timebase where
  fnRef : FN
  ltRef : LT
  slew : Option Int
  deriving DecidableEq, Repr

/-- The Timebase Unit: LT (R1), the records (R4), the fallback with the subscription it belongs to (R6), the
trim word, the reference trim and the delivered flag (R17, R18), the preferred anchor (R16). -/
structure Tbu where
  lt : LT
  record : PerSub (Option Timebase)
  fallback : Option (Subscription × Timebase)
  trimWord : BitVec 13
  refTrim : BitVec 13
  delivered : Bool
  prefAnchor : Subscription
  deriving DecidableEq, Repr

/-! ### Context Manager (chapter 2) -/

inductive CtxState where
  | absent | searching | camped | exchange | call | handover
  deriving DecidableEq, Repr

/-- Prior state of a handover (R19, R31). -/
inductive Prior where
  | call | exchange | camped
  deriving DecidableEq, Repr

/-- The serving cell of a context. -/
structure Cell where
  tag : Nat
  channel : Nat
  deriving DecidableEq, Repr

/-- A context record (R19) but for its missed-page count, which stands in `State.missed`. -/
structure Context where
  state : CtxState
  prior : Option Prior
  purpose : Option Purpose
  exchangeDeadline : Option LT
  leaseDeadline : Option LT
  serving : Option Cell
  level : Option Int
  deriving DecidableEq, Repr

/-! ### Air-Time Planner (chapter 3) -/

/-- The name of a plan entry: slot and generation (R39). -/
structure Handle where
  slot : Fin 48
  gen : BitVec 8
  deriving DecidableEq, Repr

/-- A frame time (FN, FP) in one subscription's timebase. -/
structure FrameTime where
  fn : FN
  fp : Nat
  deriving DecidableEq, Repr

inductive Origin where
  | oneShot | page | pageRead | meas | call | sync
  deriving DecidableEq, Repr

inductive EntryState where
  | admitted | preparing | executing
  deriving DecidableEq, Repr

inductive Dir where
  | rx | tx
  deriving DecidableEq, Repr

/-- A reservation record (R38). `stop` is the local end. `cut` marks a local end shortened by R48. The
direction follows from the kind (`Entry.dir`). -/
structure Entry where
  handle : Handle
  owner : Subscription
  origin : Origin
  kind : Kind
  priority : Nat
  frame : Option FrameTime
  start : LT
  stop : LT
  channel : Nat
  txLevel : Option Int
  index : Option Nat
  measureList : Option (List Nat)
  partner : Option Handle
  state : EntryState
  cut : Bool
  deriving DecidableEq, Repr

/-- Reasons carried by notices (R52, R61, R62, R100, R106). -/
inductive Reason where
  | priority | slew | thrift | exchangeEnd | cut | radio | radioDown | conflict | tableFull | late
  | displaced | flushed
  deriving DecidableEq, Repr

/-- What a member of an occurrence lost: its kind, its frame start and why. -/
structure LossDetail where
  kind : Kind
  frame : FrameTime
  reason : Reason
  deriving DecidableEq, Repr

/-- The pending occurrence of a standing pattern (R59). `inPlan` names the members whose outcome is still to
come (two for a call frame), the local start, and the loss of a member already gone (R49). `lost` holds the
would-be start and end (R61). `due` marks that the turn has ended and the next occurrence is to be
materialised before the event is over (R62); it holds the start of the occurrence it follows. -/
inductive Pending where
  | none
  | inPlan (members : List Handle) (start : LT) (loss : Option LossDetail)
  | lost (start stop : LT)
  | due (start : LT)
  deriving DecidableEq, Repr

/-- A standing pattern as the ATP sees it (R21, R59). `firstFrame` is the first frame a re-materialisation
named while its occurrence stayed in the plan (R63). -/
structure Pattern where
  active : Bool
  pending : Pending
  lastFrame : Option FN
  firstFrame : Option FN
  deriving DecidableEq, Repr

/-- An occurrence its pattern no longer waits for (the pattern became inactive, or was placed afresh) while the outcome of
some of its members is still to come: those members, and the loss of a member already gone (R21, R49, R63; log 28). -/
structure RunOn where
  members : List Handle
  loss : Option LossDetail
  deriving DecidableEq, Repr

/-- The three patterns of a subscription, and its occurrences that run on without them. -/
structure Patterns where
  page : Pattern
  call : Pattern
  meas : Pattern
  runOn : List RunOn
  deriving DecidableEq, Repr

/-- Tune-away credit and refill count (R55). -/
structure Credit where
  credit : Nat
  refill : Nat
  deriving DecidableEq, Repr

/-- Settings of the ATP written by SET_POLICY (R44, R55): the set values. -/
structure AirSettings where
  creditMax : Nat
  refillFrames : Nat
  gRetune : Nat
  gTurn : Nat
  deriving DecidableEq, Repr

/-- Guard values in force (R44). -/
structure Guards where
  retune : Nat
  turn : Nat
  deriving DecidableEq, Repr

/-! ### Radio Sequencer (chapter 4) -/

/-- What a command of the link belongs to: an entry's window, neighbour window i of a gap, the window still open at
a gap's truncated end, which is not read (R77), a window whose entry has left the plan, or nothing that has an
outcome. -/
inductive Target where
  | entry (h : Handle)
  | gap (h : Handle) (i : Nat)
  | gapCut (h : Handle)
  | ended (h : Handle)
  | recovery
  | none
  deriving DecidableEq, Repr

/-- Commands of the Radio Control Link (R68). POWER_UP carries whether settled-at is taken as from DOWN (R83)
and whether STANDBY follows it (R72). TUNE carries channel, direction, indicator index, TX level. -/
inductive Cmd where
  | powerUp (fromDown thenStandby : Bool)
  | standby
  | powerDown
  | tune (t : Target) (channel : Nat) (dir : Dir) (index : Option Nat) (txLevel : Option Int)
  | on (t : Target)
  | off (t : Target)
  | readReport (t : Target)
  | trim (word : BitVec 13)
  | probe
  deriving DecidableEq, Repr

/-- The command kinds by which acknowledges and notices name a command (R69, R81). -/
inductive CmdKind where
  | powerUp | standby | powerDown | tune | on | off | readReport | trim | probe
  deriving DecidableEq, Repr

inductive LinkState where
  | up | radioDown
  deriving DecidableEq, Repr

inductive XcvrRecord where
  | down | standby | ready
  deriving DecidableEq, Repr

/-- How a window ended. -/
inductive EndCause where
  | done | truncated | cancelled
  deriving DecidableEq, Repr

/-- A window whose entry has left the plan and whose outcome is still to come (R75). `stamp` is the LT at
which it left; `awaiting` counts what a gap's outcome still waits for: the reports to be read, and the OFF of a
window cut at its truncated end. -/
structure EndedWindow where
  entry : Entry
  cause : EndCause
  stamp : LT
  awaiting : Nat
  deriving DecidableEq, Repr

/-- Where the current neighbour window of a gap stands: its TUNE is due, its ON is due, it is open. -/
inductive GapStage where
  | tuneDue | onDue | opened
  deriving DecidableEq, Repr

/-- The sub-window of an executing MEASURE_GAP (R67, R76). `index` runs to `count` when every window has been
closed. `awaiting` counts windows closed whose report is still to be read. -/
structure GapRun where
  handle : Handle
  owner : Subscription
  count : Nat
  guard : Nat
  index : Nat
  stage : GapStage
  awaiting : Nat
  deriving DecidableEq, Repr

/-- The Radio Sequencer (R67) but for the prepared and the executing entry, which the plan holds. `waiting`
holds the commands that fell due while the link was busy, oldest first (R69). -/
structure Rsq where
  ended : List EndedWindow
  gap : Option GapRun
  inFlight : Option (Cmd × LT)
  waiting : List Cmd
  recoveryOwed : Bool
  link : LinkState
  indicator : Bool
  faults : Nat
  record : XcvrRecord
  settledAt : Option LT
  probeTime : Option LT
  probes : Nat
  deriving DecidableEq, Repr

/-! ### Paging Unit (chapter 5) -/

/-- The record of a LISTEN still to be judged (R85). -/
structure ListenRecord where
  handle : Handle
  frame : FN
  config : PagingConfig
  epoch : BitVec 8
  deriving DecidableEq, Repr

structure ReadRecord where
  handle : Handle
  listenFrame : FN
  readFrame : FN
  deriving DecidableEq, Repr

structure ResultWindow where
  readFrame : FN
  level : Int
  age : Nat
  deriving DecidableEq, Repr

/-- Paging state of one subscription (R85). -/
structure Pgu where
  active : Option PagingConfig
  staged : Option PagingConfig
  listens : List ListenRecord
  read : Option ReadRecord
  window : Option ResultWindow
  epoch : BitVec 8
  deriving DecidableEq, Repr

/-! ### Call and Exchange Unit (chapter 6) -/

/-- CEU items of one subscription (R104). -/
structure CeuItems where
  timer : Option Nat
  lease : Option Nat
  active : Option CallPattern
  staged : Option CallPattern
  resume : Option FN
  deriving DecidableEq, Repr

structure Ceu where
  claim : Option Subscription
  items : PerSub CeuItems
  deriving DecidableEq, Repr

/-! ### Measurement Unit (chapter 7) -/

/-- A neighbour record (R128). -/
structure Neighbour where
  tag : Nat
  channel : Nat
  cls : Nat
  offset : Option Int
  level : Option Int
  count : Nat
  above : Bool
  reported : Bool
  stale : Bool
  deriving DecidableEq, Repr

structure MeasConfig where
  period : Nat
  fp : Nat
  length : Nat
  deriving DecidableEq, Repr

/-- Filter, trigger and bank settings (R125); bit r of a class mask is round r. -/
structure MeasSettings where
  k : Nat
  hysteresis : Nat
  n : Nat
  threshold : Nat
  mask0 : BitVec 4
  mask1 : BitVec 4
  mask2 : BitVec 4
  mask3 : BitVec 4
  deriving DecidableEq, Repr

inductive BankState where
  | filling | ready | empty
  deriving DecidableEq, Repr

/-- A report record (R141). -/
structure ReportRecord where
  tag : Nat
  channel : Nat
  raw : Int
  level : Int
  round : Nat
  stale : Bool
  candidate : Bool
  above : Bool
  deriving DecidableEq, Repr

structure Bank where
  state : BankState
  records : List ReportRecord
  overflow : Bool
  candidate : Bool
  deriving DecidableEq, Repr

/-- Measurement state of one subscription (R124) but for the selection, which stands in
`State.selection`. -/
structure Msu where
  config : Option MeasConfig
  settings : MeasSettings
  ring : List Neighbour
  pointer : Nat
  round : Nat
  bank0 : Bank
  bank1 : Bank
  deriving DecidableEq, Repr

/-- One neighbour taken into a measure list, with its position and the round it was reached in (R134). -/
structure Taken where
  tag : Nat
  channel : Nat
  position : Nat
  round : Nat
  deriving DecidableEq, Repr

/-- The selection of a gap (R134 to R136). -/
structure Selection where
  handle : Handle
  list : List Taken
  next : Nat
  stopPosition : Nat
  stopRound : Nat
  void : Bool
  deriving DecidableEq, Repr

/-! ### Handover Unit (chapter 8) -/

inductive HoPhase where
  | armed | switched
  deriving DecidableEq, Repr

/-- A serving cell with its filtered level, kept for a revert or a swap (R147). -/
structure FallbackCell where
  cell : Cell
  level : Option Int
  deriving DecidableEq, Repr

/-- The handover record (R147). `sync` is the handle the SYNC was admitted under; the record's SYNC field is
that handle while the SYNC is in the plan (`syncInPlan`). -/
structure HandoverRecord where
  phase : HoPhase
  tag : Nat
  channel : Nat
  offset : Int
  fnS : FN
  fnNew : FN
  syncFrames : Nat
  limit : Nat
  sync : Handle
  fallbackCell : Option FallbackCell
  held : Option (Neighbour × Nat)
  confirm : Option LT
  deriving DecidableEq, Repr

/-- The pending reselection record (R160). -/
structure ReselectRecord where
  tag : Nat
  channel : Nat
  offset : Int
  fnS : FN
  fnNew : FN
  deriving DecidableEq, Repr

structure Hou where
  record : Option HandoverRecord
  reselect : Option ReselectRecord
  deriving DecidableEq, Repr

/-! ### Clock and Sleep Controller (chapter 9) -/

inductive PowerState where
  | active | doze | slumber | waking
  deriving DecidableEq, Repr

/-- Causes of the end of a slumber (R171). -/
inductive WakeCause where
  | planned | wake | transaction | battery
  deriving DecidableEq, Repr

inductive Battery where
  | normal | low | critical
  deriving DecidableEq, Repr

/-- A pending slumber entry (R168): whether the RSQ has answered, and whether the filtered battery state has
changed since (test 7). -/
structure SlumberEntry where
  answered : Bool
  batteryChanged : Bool
  deriving DecidableEq, Repr

/-- The slumber record (R163, R168, R172). -/
structure SlumberRecord where
  l0 : LT
  w : LT
  s : Nat
  enable : Nat
  cycles : Nat
  early : Option (Nat × WakeCause)
  deriving DecidableEq, Repr

/-- The last slumber (R171). -/
structure LastSlumber where
  l0 : LT
  w : LT
  cycles : Nat
  e : Nat
  residual : Nat
  cause : WakeCause
  deriving DecidableEq, Repr

/-- The power side of the CSC (R163). `early` is an early-wake event not yet taken at an edge (R172). -/
structure Power where
  state : PowerState
  entry : Option SlumberEntry
  record : Option SlumberRecord
  early : Option WakeCause
  wakeTarget : Option LT
  last : Option LastSlumber
  deriving DecidableEq, Repr

inductive Calibration where
  | idle
  | waiting
  | running (start : LT) (trim : BitVec 13)
  deriving DecidableEq, Repr

/-- The calibrator, the battery monitor and the policy of the CSC (R163). `changes` holds battery changes of
a slumber whose notices wait for the restoring of LT (R181), oldest first. -/
structure Csc where
  k : Nat
  c : Nat
  f : Nat
  valid : Bool
  suspect : Bool
  cal : Calibration
  rescheduled : Bool
  calDue : Option LT
  lastCalEnd : Option LT
  live : Battery
  candidate : Option Battery
  agreement : Nat
  filtered : Battery
  lowSeen : Bool
  criticalSeen : Bool
  changes : List (Battery × Battery)
  thrift : Bool
  slumberPermitted : Bool
  thriftFlag : Bool
  interval : Nat
  settle : Nat
  deriving DecidableEq, Repr

/-! ### Port Interface (chapter 10) -/

/-- The statuses of R189. -/
inductive Status where
  | ok | clamped | badRequest | badValue | notOwner | state | late | tooFar | conflict | tableFull | quota
  | staleHandle | callClaimed | lowPower | thrift | notAnchor | noTiming | duplicate | ringFull | serving
  | bankNotReady
  deriving DecidableEq, Repr

/-- The window-report detail of the one-shot notices (section 10-7); `level` is none where level present is 0. -/
structure WindowDetail where
  handle : Handle
  kind : Kind
  reason : Option Reason
  level : Option Int
  deriving DecidableEq, Repr

/-- Decisions on a listen (R92). -/
inductive Decision where
  | present | absent | uncertain
  deriving DecidableEq, Repr

inductive IncomingKind where
  | call | text
  deriving DecidableEq, Repr

inductive CallEndCause where
  | endCall | teardown
  deriving DecidableEq, Repr

inductive FailReason where
  | request | deadline
  deriving DecidableEq, Repr

/-- The notices of section 10-4 with their details. -/
inductive NoticeBody where
  | done (d : WindowDetail)
  | truncated (d : WindowDetail)
  | cancelled (d : WindowDetail)
  | displaced (d : WindowDetail)
  | aborted (d : WindowDetail)
  | flushed (d : WindowDetail)
  | patternLost (d : LossDetail)
  | callYield (frame : FrameTime)
  | page (decision : Decision) (metric : Option Int) (listenFrame : FN)
  | readDone (level : Int) (readFrame : FN)
  | pageMissed (kind : Kind) (frame : FN) (reason : Reason)
  | incoming (kind : IncomingKind) (readFrame : FN) (level : Int)
  | exchangeExpired (purpose : Option Purpose)
  | leaseLost
  | callEnded (cause : CallEndCause)
  | candidate (tag channel : Nat) (level : Int) (serving : Int)
  | bankReady (bank count : Nat) (overflow : Bool)
  | syncCompleted (level : Int)
  | syncAborted (reason : Reason)
  | handoverSwitched (fn : FN) (offset : Int) (limit : Nat)
  | handoverDone (tag channel : Nat)
  | handoverFailed (reason : FailReason)
  | reselectDone (tag channel : Nat) (fn : FN)
  | radioDown (cmd : CmdKind)
  | radioUp (probes : Nat)
  | battery (old new : Battery)
  | calReject (measured nominal c : Nat)
  deriving DecidableEq, Repr

/-- A notice record (R190). -/
structure Notice where
  body : NoticeBody
  sub : Option Subscription
  stamp : LT
  deriving DecidableEq, Repr

/-- A notice queue with its overflow flag (R191), oldest notice first. -/
structure NoticeQueue where
  items : List Notice
  overflow : Bool
  deriving DecidableEq, Repr

/-- A plan entry as READ_PLAN gives it (R66). -/
structure PlanView where
  handle : Handle
  owner : Subscription
  origin : Origin
  kind : Kind
  priority : Nat
  state : EntryState
  start : LT
  stop : LT
  channel : Nat
  dir : Dir
  deriving DecidableEq, Repr

/-- The frame time of now and the pending slew of one subscription as READ_TIME gives them (R15). -/
structure TimeView where
  frame : FrameTime
  slew : Option Int
  deriving DecidableEq, Repr

/-- IDLE, WAITING or RUNNING, as READ_POWER gives it (R183). -/
inductive CalPhase where
  | idle | waiting | running
  deriving DecidableEq, Repr

/-- The answer of READ_POWER (R183). -/
structure PowerView where
  state : PowerState
  entryPending : Bool
  wakeTarget : Option LT
  last : Option LastSlumber
  k : Nat
  c : Nat
  f : Nat
  valid : Bool
  suspect : Bool
  cal : CalPhase
  rescheduled : Bool
  calDue : Option LT
  lastCalEnd : Option LT
  live : Battery
  filtered : Battery
  lowSeen : Bool
  criticalSeen : Bool
  thrift : Bool
  link : LinkState
  indicator : Bool
  faults : Nat
  votes : PerPort Bool
  wake : PerPort Bool
  slumberPermitted : Bool
  thriftFlag : Bool
  interval : Nat
  settle : Nat
  deriving DecidableEq, Repr

/-- Bodies of answers, as the owning rules give them. -/
inductive Body where
  | empty
  /-- READ_TIME from a stack port (R15) -/
  | stackTime (lt : LT) (own : Option TimeView) (trim : BitVec 13) (anchor : Option Subscription)
  /-- READ_TIME from the Application Port (R15) -/
  | appTime (lt : LT) (a b : Option TimeView) (trim : BitVec 13) (anchor : Option Subscription)
      (preferred : Subscription)
  /-- READ_CONTEXT (R20): the record, the missed-page count, phase, pending switch frame, claim -/
  | context (c : Context) (missed : Nat) (phase : Option HoPhase) (reselect : Option FN) (claim : Bool)
  /-- RESERVE (section 10-7): slot, generation, local start -/
  | reserved (h : Handle) (start : LT)
  /-- HANDOVER_ARM (R149): the SYNC's handle, local start and local end -/
  | armed (h : Handle) (start stop : LT)
  /-- LEAVE_EXCHANGE (R106): number of one-shots removed -/
  | removed (n : Nat)
  /-- READ_BANK (R143) -/
  | bank (number : Nat) (records : List ReportRecord) (overflow candidate : Bool)
  /-- READ_PLAN (R66) -/
  | plan (count : Nat) (entries : List PlanView) (credit : Credit) (settings : AirSettings) (force : Guards)
  /-- READ_POWER (R183) -/
  | power (v : PowerView)
  /-- CLEAR_BATTERY (R181): LOW-seen, CRITICAL-seen as they stood -/
  | battery (low critical : Bool)
  /-- FETCH_NOTICES (R192): the notices returned, the overflow flag before, the number left -/
  | notices (items : List Notice) (overflow : Bool) (left : Nat)
  deriving DecidableEq, Repr

/-- An answer frame (R185): the request's tag, one status, a body. -/
structure Answer where
  tag : BitVec 8
  status : Status
  body : Body
  deriving DecidableEq, Repr

/-- A port engine (R184). -/
inductive Engine where
  | idle
  | receiving
  | pending (tag : BitVec 8) (req : Request)
  | answering (a : Answer)
  deriving DecidableEq, Repr

/-- Levels of the port inputs: CS_N low, WAKE asserted. -/
structure Pins where
  csLow : PerPort Bool
  wake : PerPort Bool
  deriving DecidableEq, Repr

/-- Bring-up (R198, R199): held in reset, waiting for the first REF_IN tick, LT counting. -/
inductive Phase where
  | held | starting | running
  deriving DecidableEq, Repr

/-! ### The whole device -/

/-- The state of the device and the queue of commands waiting, oldest first. `free` is the model's own: the
counter that `Config.pick` is applied to (log 2). -/
structure State where
  phase : Phase
  tbu : Tbu
  cxm : PerSub Context
  missed : PerSub Nat
  plan : List Entry
  gens : Vector (BitVec 8) 48
  patterns : PerSub Patterns
  credit : Credit
  air : AirSettings
  guards : Guards
  rsq : Rsq
  pgu : PerSub Pgu
  ceu : Ceu
  msu : PerSub Msu
  selection : PerSub (Option Selection)
  hou : PerSub Hou
  power : Power
  csc : Csc
  engines : PerPort Engine
  pins : Pins
  queues : PerPort NoticeQueue
  votes : PerPort Bool
  free : Nat
  pending : List Instr
  deriving DecidableEq, Repr

/-- Reasons a step stops with a fault. There is none: every command of the manual has an effect in every
state, or none at all (INVENTORY, Faults). -/
inductive Fault where
  deriving DecidableEq, Repr

/-- Reasons a command has no meaning in the model. -/
inductive Refusal where
  /-- raised by `exec` alone, for a row whose meaning is not written yet; safe. No arm raises it. -/
  | notModelled (mnemonic : String)
  deriving DecidableEq, Repr

/-! ### After reset -/

/-- A context after reset (R19). -/
def Context.atReset : Context :=
  { state := .absent, prior := none, purpose := none, exchangeDeadline := none, leaseDeadline := none,
    serving := none, level := none }

/-- A pattern with no pending occurrence (R59). -/
def Pattern.atReset : Pattern :=
  { active := false, pending := .none, lastFrame := none, firstFrame := none }

def Patterns.atReset : Patterns :=
  { page := Pattern.atReset, call := Pattern.atReset, meas := Pattern.atReset, runOn := [] }

/-- The RSQ after reset (R67). -/
def Rsq.atReset : Rsq :=
  { ended := [], gap := none, inFlight := none, waiting := [], recoveryOwed := false, link := .up,
    indicator := false, faults := 0, record := .down, settledAt := none, probeTime := none, probes := 0 }

/-- Paging state after reset (R85). -/
def Pgu.atReset : Pgu :=
  { active := none, staged := none, listens := [], read := none, window := none, epoch := 0 }

def CeuItems.atReset : CeuItems :=
  { timer := none, lease := none, active := none, staged := none, resume := none }

/-- The measurement settings' defaults (R124). -/
def MeasSettings.default : MeasSettings :=
  { k := 2, hysteresis := 6, n := 3, threshold := 4, mask0 := 0b1111, mask1 := 0b0101, mask2 := 0b0001,
    mask3 := 0b0000 }

def Bank.cleared (st : BankState) : Bank :=
  { state := st, records := [], overflow := false, candidate := false }

/-- Measurement state after reset and after teardown (R124). -/
def Msu.atReset : Msu :=
  { config := none, settings := MeasSettings.default, ring := [], pointer := 0, round := 0,
    bank0 := Bank.cleared .filling, bank1 := Bank.cleared .empty }

def Hou.atReset : Hou := { record := none, reselect := none }

/-- The power side of the CSC after reset (R163). -/
def Power.atReset : Power :=
  { state := .doze, entry := none, record := none, early := none, wakeTarget := none, last := none }

/-- The rest of the CSC after reset (R163). -/
def Csc.atReset : Csc :=
  { k := 812500, c := 10, f := 0, valid := false, suspect := false, cal := .waiting, rescheduled := false,
    calDue := none, lastCalEnd := none, live := .normal, candidate := none, agreement := 0,
    filtered := .normal, lowSeen := false, criticalSeen := false, changes := [], thrift := false,
    slumberPermitted := true, thriftFlag := false, interval := 30, settle := 66 }

def NoticeQueue.cleared : NoticeQueue := { items := [], overflow := false }

/-- The device right after reset: every block at its after-reset values (R1, R4, R6, R17, R18, R19, R39, R40,
R44, R55, R59, R67, R85, R104, R124, R147, R160, R163, R197), held until BRING_UP (R198). The input levels and the
free counter are the model's (log 2, 6). -/
def State.reset : State :=
  { phase := .held,
    tbu := { lt := 0, record := ⟨none, none⟩, fallback := none, trimWord := 4096, refTrim := 4096,
             delivered := false, prefAnchor := .A },
    cxm := ⟨Context.atReset, Context.atReset⟩,
    missed := ⟨0, 0⟩,
    plan := [],
    gens := Vector.replicate 48 0,
    patterns := ⟨Patterns.atReset, Patterns.atReset⟩,
    credit := { credit := 0, refill := 0 },
    air := { creditMax := 2, refillFrames := 128, gRetune := 5200, gTurn := 1300 },
    guards := { retune := 5200, turn := 1300 },
    rsq := Rsq.atReset,
    pgu := ⟨Pgu.atReset, Pgu.atReset⟩,
    ceu := { claim := none, items := ⟨CeuItems.atReset, CeuItems.atReset⟩ },
    msu := ⟨Msu.atReset, Msu.atReset⟩,
    selection := ⟨none, none⟩,
    hou := ⟨Hou.atReset, Hou.atReset⟩,
    power := Power.atReset,
    csc := Csc.atReset,
    engines := ⟨.idle, .idle, .idle⟩,
    pins := { csLow := ⟨false, false, false⟩, wake := ⟨false, false, false⟩ },
    queues := ⟨NoticeQueue.cleared, NoticeQueue.cleared, NoticeQueue.cleared⟩,
    votes := ⟨false, false, false⟩,
    free := 0,
    pending := [] }

end Sys2Proof.Machine
end

