-- ==== Sys2Proof/Machine/Ops.lean ====
section
/-! DEFINITION. The named operations over the state: local-time arithmetic, updates of one block, notices,
the plan's entries and slots, commands to the link. Every meaning is written over these. -/

namespace Sys2Proof.Machine

/-! ### Local time and frame time (R1, R7) -/

/-- `a` is later than or equal to `b`: their difference modulo 2^48 is below 2^47 (R1). -/
def ltReached (a b : LT) : Bool := decide ((a - b).toNat < 2 ^ 47)

/-- `a` is later than `b`. -/
def ltAfter (a b : LT) : Bool := ltReached a b && a != b

def ltAdd (t : LT) (n : Nat) : LT := t + BitVec.ofNat 48 n

def ltSub (t : LT) (n : Nat) : LT := t - BitVec.ofNat 48 n

def ltAddInt (t : LT) (d : Int) : LT := t + BitVec.ofInt 48 d

/-- Whether a deadline, if there is one, is reached (R2). -/
def reachedBy (now : LT) : Option LT → Bool
  | some t => ltReached now t
  | none => false

/-- The earlier of two instants in the sense of R1. -/
def ltEarlier (a b : LT) : LT := if ltReached b a then a else b

/-- The earliest of a list of instants; none of an empty one. -/
def ltEarliest : List LT → Option LT
  | [] => none
  | t :: ts =>
    match ltEarliest ts with
    | some u => some (ltEarlier t u)
    | none => some t

/-- The frame distance of R7, 0 to 4095. -/
def frameDist (b : Timebase) (fn : FN) : Nat := (fn - b.fnRef).toNat

/-- The conversion of R7 through a record: none where the frame time is past (LATE). -/
def convert (b : Timebase) (t : FrameTime) : Option LT :=
  let d := frameDist b t.fn
  if d < 2048 then some (ltAdd b.ltRef (d * Config.frameTicks + t.fp)) else none

/-- The frame time whose conversion through the record gives `t` (R15, R153): the signed difference to LT_ref
written as q frames and r ticks. -/
def frameOf (b : Timebase) (t : LT) : FrameTime :=
  let d := (t - b.ltRef).toInt
  { fn := b.fnRef + BitVec.ofInt 12 (d / Config.frameTicks), fp := (d % Config.frameTicks).toNat }

/-- Whether LT counts: bring-up has seen its first tick and the power state is ACTIVE or DOZE (R1). -/
def ltRuns (s : State) : Bool :=
  s.phase == .running && (s.power.state == .active || s.power.state == .doze)

/-- "now" (R1). -/
def now (s : State) : LT := s.tbu.lt

/-! ### Updates of one block -/

def updTbu (f : Tbu → Tbu) (s : State) : State := { s with tbu := f s.tbu }
def updRecord (x : Subscription) (r : Option Timebase) (s : State) : State :=
  { s with tbu := { s.tbu with record := s.tbu.record.set x r } }
def updCtx (x : Subscription) (f : Context → Context) (s : State) : State := { s with cxm := s.cxm.upd x f }
def updRsq (f : Rsq → Rsq) (s : State) : State := { s with rsq := f s.rsq }
def updPgu (x : Subscription) (f : Pgu → Pgu) (s : State) : State := { s with pgu := s.pgu.upd x f }
def updCeu (x : Subscription) (f : CeuItems → CeuItems) (s : State) : State :=
  { s with ceu := { s.ceu with items := s.ceu.items.upd x f } }
def updMsu (x : Subscription) (f : Msu → Msu) (s : State) : State := { s with msu := s.msu.upd x f }
def updHou (x : Subscription) (f : Hou → Hou) (s : State) : State := { s with hou := s.hou.upd x f }
def updPower (f : Power → Power) (s : State) : State := { s with power := f s.power }
def updCsc (f : Csc → Csc) (s : State) : State := { s with csc := f s.csc }
def setSelection (x : Subscription) (v : Option Selection) (s : State) : State :=
  { s with selection := s.selection.set x v }

def Patterns.get (p : Patterns) : Pat → Pattern
  | .page => p.page
  | .call => p.call
  | .meas => p.meas

def Patterns.set (p : Patterns) (k : Pat) (v : Pattern) : Patterns :=
  match k with
  | .page => { p with page := v }
  | .call => { p with call := v }
  | .meas => { p with meas := v }

def patternOf (x : Subscription) (k : Pat) (s : State) : Pattern := (s.patterns.get x).get k

def updPattern (x : Subscription) (k : Pat) (f : Pattern → Pattern) (s : State) : State :=
  { s with patterns := s.patterns.upd x (fun p => p.set k (f (p.get k))) }

/-- The occurrences of x that run on without their patterns. -/
def setRunOn (x : Subscription) (l : List RunOn) (s : State) : State :=
  { s with patterns := s.patterns.upd x (fun p => { p with runOn := l }) }

/-! ### Notices (R190, R191) -/

/-- A notice given to a queue: appended, or dropped with the overflow flag set when 16 are queued (R191). -/
def NoticeQueue.push (q : NoticeQueue) (n : Notice) : NoticeQueue :=
  if q.items.length < Config.queueCapacity then { q with items := q.items ++ [n] } else { q with overflow := true }

def giveNotice (q : Port) (n : Notice) (s : State) : State := { s with queues := s.queues.upd q (·.push n) }

/-- A notice to a subscription's stack port, stamped with the given LT. -/
def notifyAt (x : Subscription) (stamp : LT) (b : NoticeBody) (s : State) : State :=
  giveNotice x.port { body := b, sub := some x, stamp := stamp } s

/-- A notice to a subscription's stack port, stamped with the event (R190). -/
def notify (x : Subscription) (b : NoticeBody) (s : State) : State := notifyAt x (now s) b s

/-- A notice about a subscription to the Application Port, stamped with the given LT. -/
def notifyAppAt (x : Subscription) (stamp : LT) (b : NoticeBody) (s : State) : State :=
  giveNotice .P { body := b, sub := some x, stamp := stamp } s

/-- A notice with no subscription to one port: RADIO_DOWN and RADIO_UP by R190, BATTERY and CAL_REJECT by the model's
choice (log 38). -/
def notifyBare (q : Port) (b : NoticeBody) (s : State) : State :=
  giveNotice q { body := b, sub := none, stamp := now s } s

/-- A notice with no subscription to each of the three ports (R81, R83). -/
def notifyAll (b : NoticeBody) (s : State) : State := notifyBare .P b (notifyBare .B b (notifyBare .A b s))

/-- The missed-page count raised by 1, staying at 65,535 (R101). -/
def raiseMissed (x : Subscription) (s : State) : State :=
  { s with missed := s.missed.upd x (fun n => if n < Config.missedLimit then n + 1 else n) }

/-- PAGE_MISSED to the stack port and to the Application Port, and the count raised (R100, R101). -/
def pageMissed (x : Subscription) (kind : Kind) (frame : FN) (r : Reason) (s : State) : State :=
  raiseMissed x (notifyAppAt x (now s) (.pageMissed kind frame r) (notify x (.pageMissed kind frame r) s))

/-! ### Commands to the link (R69) -/

def Cmd.kind : Cmd → CmdKind
  | .powerUp _ _ => .powerUp
  | .standby => .standby
  | .powerDown => .powerDown
  | .tune _ _ _ _ _ => .tune
  | .on _ => .on
  | .off _ => .off
  | .readReport _ => .readReport
  | .trim _ => .trim
  | .probe => .probe

/-- A command falls due: it joins the waiting commands. In RADIO_DOWN none but PROBE is taken up (R71, R82). -/
def demand (c : Cmd) (s : State) : State :=
  if s.rsq.link = .up then updRsq (fun r => { r with waiting := r.waiting ++ [c] }) s else s

/-- A waiting TUNE or ON of the named entry or of a window of the named gap. -/
def isSetupFor (h : Handle) : Cmd → Bool
  | .tune (.entry g) _ _ _ _ => g == h
  | .tune (.gap g _) _ _ _ _ => g == h
  | .on (.entry g) => g == h
  | .on (.gap g _) => g == h
  | _ => false

/-- A waiting READ_REPORT of a window of the named gap. -/
def isReadOf (h : Handle) : Cmd → Bool
  | .readReport (.gap g _) => g == h
  | _ => false

/-- No report of the named gap is asked for any more (R35, R77). -/
def dropReads (h : Handle) (s : State) : State :=
  updRsq (fun r => { r with waiting := r.waiting.filter (fun c => !isReadOf h c) }) s

/-! ### Plan entries and slots (R38 to R40) -/

def Entry.dir (e : Entry) : Dir :=
  match e.kind with
  | .callTx => .tx
  | .exchTx => .tx
  | _ => .rx

def Entry.length (e : Entry) : Nat := (e.stop - e.start).toNat

def findEntry (h : Handle) (s : State) : Option Entry := s.plan.find? (fun e => e.handle == h)

def inPlan (h : Handle) (s : State) : Bool := s.plan.any (fun e => e.handle == h)

/-- The lowest-numbered slot that no entry occupies (R39). -/
def freeSlot (plan : List Entry) : Option (Fin 48) :=
  (List.finRange 48).find? (fun i => plan.all (fun e => e.handle.slot != i))

/-- The handle a newcomer takes now: the lowest free slot with its generation (R39). -/
def nextHandle (s : State) : Option Handle := (freeSlot s.plan).map (fun i => { slot := i, gen := s.gens[i] })

/-- An entry placed at the position of its local start (R40). -/
def insertByStart (e : Entry) : List Entry → List Entry
  | [] => [e]
  | f :: fs => if ltAfter f.start e.start then e :: f :: fs else f :: insertByStart e fs

def addEntry (e : Entry) (s : State) : State := { s with plan := insertByStart e s.plan }

/-- The slot's generation rises by 1, from 255 to 0 (R39). -/
def raiseGen (i : Fin 48) (s : State) : State := { s with gens := s.gens.set i (s.gens[i] + 1) }

/-- An entry leaves the plan: its slot becomes free and its generation rises (R39). No setup command that
still waits for it is sent (R73), and the sub-window of a gap ends with the gap. DESIGN CHOICE: so too for an EXECUTING entry
whose TUNE or ON still waits when it ends, of which R73 and R77 do not speak (log 47). -/
def removeEntry (h : Handle) (s : State) : State :=
  if inPlan h s then
    updRsq (fun r => { r with waiting := r.waiting.filter (fun c => !isSetupFor h c),
                              gap := r.gap.filter (fun g => g.handle != h) })
      (raiseGen h.slot { s with plan := s.plan.filter (fun e => e.handle != h) })
  else s

/-- One entry replaced, keeping its place. -/
def modifyEntry (h : Handle) (f : Entry → Entry) (s : State) : State :=
  { s with plan := s.plan.map (fun e => if e.handle == h then f e else e) }

/-- The one-shot count of a subscription (R40): the one-shots it has in the plan. -/
def oneShotCount (x : Subscription) (s : State) : Nat :=
  (s.plan.filter (fun e => e.owner == x && e.origin == .oneShot)).length

/-- The PREPARING entry (R67, prepared entry). -/
def preparedEntry (s : State) : Option Entry := s.plan.find? (fun e => e.state == .preparing)

/-- The EXECUTING entry (R67, executing entry). -/
def executingEntry (s : State) : Option Entry := s.plan.find? (fun e => e.state == .executing)

/-- The first ADMITTED entry in plan order (R65, R73). -/
def firstAdmitted (s : State) : Option Entry := s.plan.find? (fun e => e.state == .admitted)

def findEnded (h : Handle) (s : State) : Option EndedWindow := s.rsq.ended.find? (fun w => w.entry.handle == h)

/-- The other member of a call frame, while it is in the plan: the two name each other (R49). -/
def partnerOf (e : Entry) (s : State) : Option Entry :=
  match e.partner with
  | some h => (findEntry h s).filter (fun p => p.origin == .call && p.owner == e.owner && p.partner == some e.handle)
  | none => none

/-- The SYNC of a handover while it is in the plan (R147). -/
def syncInPlan (x : Subscription) (r : HandoverRecord) (s : State) : Option Entry :=
  (findEntry r.sync s).filter (fun e => e.kind == .sync && e.owner == x)

/-! ### Clamping (section 0-4) -/

def clampInt (lo hi v : Int) : Int := if v < lo then lo else if hi < v then hi else v

def clampNat (lo hi v : Nat) : Nat := if v < lo then lo else if hi < v then hi else v

/-- A received level as the RSQ hands it on (R78). -/
def clampLevel (v : Int) : Int := clampInt Config.levelMin Config.levelMax v

/-- An indicator metric as the RSQ hands it on (R78). -/
def clampMetric (v : Int) : Int := clampInt 0 255 v

/-- A TX level brought into -40 to +24 (R45, R109). -/
def clampTx (v : Int) : Int := clampInt Config.txMin Config.txMax v

end Sys2Proof.Machine
end

