-- ==== Sys2Proof/Machine/Operands.lean ====
section
/-! DEFINITION. The tests and clamps of the values a request carries, rule by rule. A test says whether the
values pass; where a rule clamps, the clamped value and whether anything was clamped are given. -/

namespace Sys2Proof.Machine

/-! ### Cells, frames, anchors -/

def tagOk (t : Nat) : Bool := decide (t ≤ 1023)
def channelOk (c : Nat) : Bool := decide (c ≤ 4095)
def fnOk (n : Nat) : Bool := decide (n ≤ 4095)
def fpOk (p : Nat) : Bool := decide (p < Config.frameTicks)
def toFN (n : Nat) : FN := BitVec.ofNat 12 n

/-- LT_ref of a CAMP lies within one frame of now, in whichever direction is smaller (R13). -/
def anchorNear (t nw : LT) : Bool :=
  decide ((t - nw).toNat < Config.frameTicks) || decide ((nw - t).toNat < Config.frameTicks)

/-- CAMP's values (R24, R13). -/
def campOk (b : CampBody) (nw : LT) : Bool :=
  tagOk b.tag && channelOk b.channel && fnOk b.fn && anchorNear b.lt nw

/-- ADJUST_TIMING's delta brought into ±2,600 (R10). -/
def clampSlew (d : Int) : Int := clampInt (-Config.maxSlew) Config.maxSlew d

/-- Distance of a switch frame, 2 to 64 (R148, R160). -/
def switchDistOk (d : Nat) : Bool := decide (2 ≤ d) && decide (d ≤ 64)

/-- RESELECT's ranges (R160, test 2). -/
def reselectOk (b : ReselectBody) : Bool := tagOk b.tag && channelOk b.channel && fnOk b.fnS && fnOk b.fnNew

/-- HANDOVER_ARM's ranges (R148, test 3). -/
def armOk (b : ArmBody) : Bool :=
  tagOk b.tag && channelOk b.channel && fnOk b.fnS && fnOk b.fnNew &&
  (b.sync == 1 || b.sync == 2) && decide (2 ≤ b.limit) && decide (b.limit ≤ 50)

/-! ### Paging, exchanges, calls -/

/-- A paging configuration: every range and the three cross-tests of R86. -/
def pagingOk (c : PagingConfig) : Bool :=
  (c.cycle == 32 || c.cycle == 64 || c.cycle == 128 || c.cycle == 256) &&
  decide (c.frame < c.cycle) && fpOk c.listenFp &&
  decide (1300 ≤ c.listenLen) && decide (c.listenLen ≤ 52000) &&
  decide (c.index ≤ 255) && decide (c.tA ≤ 255) && decide (c.tP ≤ 255) &&
  decide (1 ≤ c.readOffset) && decide (c.readOffset ≤ 8) && fpOk c.readFp &&
  decide (13000 ≤ c.readLen) && decide (c.readLen ≤ 260000) &&
  decide (c.tA < c.tP) &&
  decide (c.listenFp + c.listenLen ≤ Config.frameTicks) &&
  decide (c.listenFp + c.listenLen + 13000 ≤ c.readOffset * Config.frameTicks + c.readFp)

/-- An exchange timer, 50 to 3,000 frames, not clamped (R25, R105). -/
def timerOk (t : Nat) : Bool := decide (50 ≤ t) && decide (t ≤ 3000)

/-- A lease field: 0 gives none, otherwise 50 to 1,000 frames, not clamped (R112, R117). -/
def leaseOk (l : Nat) : Bool := l == 0 || (decide (50 ≤ l) && decide (l ≤ 1000))

/-- Whether position n mod 8 is marked (R109). -/
def marked (p : CallPattern) (fn : FN) : Bool := p.marks.getLsbD (fn.toNat % 8)

/-- The two windows of a call pattern keep the given turn-round guard (R109, R111). -/
def separated (p : CallPattern) (gTurn : Nat) : Bool :=
  if p.rxFp ≤ p.txFp then decide (p.rxFp + p.rxLen + gTurn ≤ p.txFp)
  else decide (p.txFp + p.txLen + gTurn ≤ p.rxFp)

/-- A call pattern as a whole (R109), but for the clamped TX level. -/
def callPatternOk (p : CallPattern) (gTurn : Nat) : Bool :=
  p.marks != 0 && fpOk p.rxFp && fpOk p.txFp &&
  decide (1300 ≤ p.rxLen) && decide (p.rxLen ≤ 260000) &&
  decide (1300 ≤ p.txLen) && decide (p.txLen ≤ 260000) &&
  decide (p.rxFp + p.rxLen ≤ Config.frameTicks) && decide (p.txFp + p.txLen ≤ Config.frameTicks) &&
  separated p gTurn

/-- The pattern with its TX level clamped (R109). -/
def clampPattern (p : CallPattern) : CallPattern := { p with txLevel := clampTx p.txLevel }

/-- OK, or CLAMPED where a value was brought to the end of its range (R189). -/
def okOr (clamped : Bool) : Status := if clamped then .clamped else .ok

/-! ### One-shots -/

/-- RESERVE's kinds (R50, test 1). -/
def reserveKind : Option Kind → Option Kind
  | some .search => some .search
  | some .exchRx => some .exchRx
  | some .exchTx => some .exchTx
  | _ => none

/-- Length and channel of a RESERVE (R50, test 4). -/
def reserveOk (b : ReserveBody) : Bool :=
  decide (Config.minLength ≤ b.length.toNat) && decide (b.length.toNat ≤ Config.maxLength) &&
  channelOk b.channel.toNat

/-- Frame number and frame position in bytes 2 to 6 of a RESERVE body (section 10-7). -/
def reserveFn (b : ReserveBody) : Nat := (b.start >>> 32).toNat
def reserveFp (b : ReserveBody) : Nat := ((b.start >>> 8) &&& 0xFFFFFF#48).toNat

/-- What the start tests of R8 give: a refusal, or the local start with the frame start where it has one. -/
inductive StartResult where
  | refuse (st : Status)
  | at (start : LT) (frame : Option FrameTime)
  deriving DecidableEq, Repr

/-- The five start tests of R8, in order, for the record of the asking subscription. -/
def startTest (b : ReserveBody) (rec : Option Timebase) (nw : LT) : StartResult :=
  if b.form == 0 then
    if !(fnOk (reserveFn b) && fpOk (reserveFp b)) then .refuse .badValue
    else match rec with
      | none => .refuse .state
      | some tb =>
        let t : FrameTime := { fn := toFN (reserveFn b), fp := reserveFp b }
        match convert tb t with
        | none => .refuse .late
        | some l =>
          if Config.horizonFrames < frameDist tb t.fn then .refuse .tooFar
          else if ltAfter l (ltAdd nw Config.prepareLead) then .at l (some t)
          else .refuse .late
  else if b.form == 1 then
    if !ltReached b.start nw then .refuse .late
    else if Config.horizonTicks < (b.start - nw).toNat then .refuse .tooFar
    else if ltAfter b.start (ltAdd nw Config.prepareLead) then .at b.start none
    else .refuse .late
  else .refuse .badValue

/-! ### Measurement -/

def maskOk : Option Nat → Bool
  | some m => decide (m ≤ 15)
  | none => true

/-- The values of SET_MEAS that are refused out of range (R125). -/
def measOk (b : MeasBody) : Bool :=
  decide (8 ≤ b.period) && decide (b.period ≤ 128) && fpOk b.fp &&
  decide (13000 ≤ b.length) && decide (b.length ≤ 156000) &&
  maskOk b.mask0 && maskOk b.mask1 && maskOk b.mask2 && maskOk b.mask3

/-- A given value clamped, or the value held. -/
def givenOr (lo hi : Nat) (given : Option Nat) (held : Nat) : Nat :=
  match given with
  | some v => clampNat lo hi v
  | none => held

/-- Whether a given value lies outside its range. -/
def isClamped (lo hi : Nat) : Option Nat → Bool
  | some v => clampNat lo hi v != v
  | none => false

def givenMask (given : Option Nat) (held : BitVec 4) : BitVec 4 :=
  match given with
  | some m => BitVec.ofNat 4 m
  | none => held

/-- Whether SET_MEAS clamps a value (R125). -/
def measClamped (b : MeasBody) : Bool :=
  isClamped 0 4 b.k || isClamped 0 30 b.hysteresis || isClamped 1 8 b.n || isClamped 1 8 b.threshold

/-- The settings after a SET_MEAS that is taken (R125). -/
def newSettings (b : MeasBody) (m : MeasSettings) : MeasSettings :=
  { k := givenOr 0 4 b.k m.k, hysteresis := givenOr 0 30 b.hysteresis m.hysteresis,
    n := givenOr 1 8 b.n m.n, threshold := givenOr 1 8 b.threshold m.threshold,
    mask0 := givenMask b.mask0 m.mask0, mask1 := givenMask b.mask1 m.mask1,
    mask2 := givenMask b.mask2 m.mask2, mask3 := givenMask b.mask3 m.mask3 }

def offsetOk : Option Int → Bool
  | some o => decide (-130000 ≤ o) && decide (o ≤ 129999)
  | none => true

/-- Ranges of one neighbour (R129, test 1). -/
def neighbourOk (r : NeighbourSpec) : Bool :=
  tagOk r.tag && channelOk r.channel && decide (r.cls ≤ 3) && offsetOk r.offset

/-- Whether a list names some cell twice (R129, test 3). -/
def hasDuplicate : List NeighbourSpec → Bool
  | [] => false
  | r :: rs => rs.any (fun q => q.tag == r.tag && q.channel == r.channel) || hasDuplicate rs

/-! ### Policy -/

def codedOk {α : Type} : Coded α → Bool
  | .unknown => false
  | _ => true

def codedOr {α : Type} (f : Coded α) (held : α) : α :=
  match f with
  | .val v => v
  | _ => held

def expOk : Option Nat → Bool
  | some c => decide (8 ≤ c) && decide (c ≤ 13)
  | none => true

/-- The values of SET_POLICY that are refused out of range (R175). -/
def policyOk (b : PolicyBody) : Bool := codedOk b.slumber && codedOk b.thrift && codedOk b.anchor && expOk b.c

/-- Whether SET_POLICY clamps a value (R175). -/
def policyClamped (b : PolicyBody) : Bool :=
  isClamped 0 8 b.creditMax || isClamped 32 1024 b.refillFrames || isClamped 0 Config.maxGuard b.gRetune ||
  isClamped 0 Config.maxGuard b.gTurn || isClamped 1 600 b.interval || isClamped 1 255 b.settle

end Sys2Proof.Machine
end

