-- ==== Sys2Proof/Machine/Flags.lean ====
section
/-! DEFINITION. What the device computes from its state and does not store: which patterns a context calls
for, the anchor, thrift, ATTN and the clock outputs, the needs, and the record that READ_TIME reports. -/

namespace Sys2Proof.Machine

/-! ### Outputs -/

/-- ATTN of a port (R193). -/
def attn (q : Port) (s : State) : Bool := !(s.queues.get q).items.isEmpty

/-- The oscillator enable: low only in SLUMBER (R164, R198, R199). -/
def oscEn (s : State) : Bool := s.power.state != .slumber

/-- The reference clock output (R164, R198). -/
def refOut (s : State) : Bool := ltRuns s

/-! ### Contexts -/

def phaseOf (x : Subscription) (s : State) : Option HoPhase := (s.hou.get x).record.map (·.phase)

/-- Whether the state of x calls for PAGE (table of R21). -/
def pageCalled (x : Subscription) (s : State) : Bool :=
  let c := s.cxm.get x
  match c.state with
  | .camped => true
  | .exchange => true
  | .handover => phaseOf x s == some .armed && (c.prior == some .exchange || c.prior == some .camped)
  | _ => false

/-- Whether the state of x calls for MEAS (table of R21). -/
def measCalled (x : Subscription) (s : State) : Bool :=
  match (s.cxm.get x).state with
  | .camped => true
  | .exchange => true
  | .call => true
  | .handover => phaseOf x s == some .armed
  | _ => false

/-- x is in CALL, or in HANDOVER with prior state CALL: exactly when it holds the claim (R108). -/
def inCall (c : Context) : Bool := c.state == .call || (c.state == .handover && c.prior == some .call)

/-- x is in EXCHANGE, or in HANDOVER with prior state EXCHANGE (R22 note 2, R41). -/
def inExchange (c : Context) : Bool :=
  c.state == .exchange || (c.state == .handover && c.prior == some .exchange)

/-- CAMPED, EXCHANGE or CALL, as the anchor (R16) and several rows of R22 need. -/
def onCell (c : Context) : Bool := c.state == .camped || c.state == .exchange || c.state == .call

/-- The anchor (R16). -/
def anchor (s : State) : Option Subscription :=
  match s.ceu.claim with
  | some x => some x
  | none =>
    let p := s.tbu.prefAnchor
    if onCell (s.cxm.get p) then some p
    else if onCell (s.cxm.get p.other) then some p.other
    else none

/-- Whether thrift should be on (R182). -/
def thriftWanted (c : Csc) : Bool := c.thriftFlag || c.filtered != .normal

/-- The gap period in force (R127). -/
def gapPeriod (thrift : Bool) (p : Nat) : Nat := if thrift then min (2 * p) 128 else p

/-! ### The frame time of now (R15) -/

def frameTimeNow (b : Timebase) (nw : LT) : FrameTime :=
  if ltReached nw b.ltRef then { fn := b.fnRef, fp := (nw - b.ltRef).toNat }
  else { fn := b.fnRef - 1, fp := Config.frameTicks - (b.ltRef - nw).toNat }

def timeView (s : State) (x : Subscription) : Option TimeView :=
  (s.tbu.record.get x).map (fun b => { frame := frameTimeNow b (now s), slew := b.slew })

/-! ### Frame starts still to come -/

/-- The LT of the next frame start of a record (R5). -/
def nextFrameStart (b : Timebase) : LT := ltAdd b.ltRef Config.frameTicks

/-- Whether the next frame start of a record, if it is present, is reached. -/
def frameDue (nw : LT) : Option Timebase → Bool
  | some b => ltReached nw (nextFrameStart b)
  | none => false

/-- The LT at which the n-th frame start from now falls by R5: a pending slew is applied at the first and
moves the ones after it (log 20). -/
def frameStartIn (b : Timebase) (n : Nat) : LT :=
  let t := ltAdd b.ltRef (n * Config.frameTicks)
  if n ≤ 1 then t else ltAddInt t (b.slew.getD 0)

/-! ### Instants reached (R2) -/

/-- The next frame start of x is reached (R5). -/
def frameStartDue (x : Subscription) (s : State) : Bool := ltRuns s && frameDue (now s) (s.tbu.record.get x)

/-- The would-be start of the lost occurrence of x's pattern whose would-be end is reached (R61). -/
def lostDue (x : Subscription) (k : Pat) (s : State) : Option LT :=
  match (patternOf x k s).pending with
  | .lost st en => if ltRuns s && ltReached (now s) en then some st else none
  | _ => none

/-- The lease deadline of x, reached while x holds a call (R118, R119). -/
def leaseDue (x : Subscription) (s : State) : Option LT :=
  if ltRuns s ∧ inCall (s.cxm.get x) = true then
    (s.cxm.get x).leaseDeadline.filter (fun t => ltReached (now s) t)
  else none

/-- The handover record of x in phase SWITCHED whose confirm deadline is reached (R157). -/
def confirmDue (x : Subscription) (s : State) : Option HandoverRecord :=
  if ltRuns s then
    (s.hou.get x).record.filter (fun r => r.phase == .switched && reachedBy (now s) r.confirm)
  else none

/-! ### Needs (R121, R159, R166) -/

/-- The switch frame x waits for: of an armed handover or of a pending reselection. -/
def switchFrame (x : Subscription) (s : State) : Option FN :=
  match (s.hou.get x).record with
  | some r => if r.phase = .armed then some r.fnS else none
  | none => (s.hou.get x).reselect.map (·.fnS)

/-- The switch-frame need (R159). -/
def switchNeed (x : Subscription) (s : State) : Option LT :=
  match switchFrame x s, s.tbu.record.get x with
  | some f, some b => (convert b { fn := f, fp := 0 }).map (fun t => ltAddInt t (b.slew.getD 0))
  | _, _ => none

/-- The refill need (R104, R121). -/
def refillNeed (s : State) : Option LT :=
  match s.ceu.claim with
  | some x =>
    if s.credit.credit < s.air.creditMax then
      (s.tbu.record.get x).map (fun b => frameStartIn b (max 1 (s.air.refillFrames - s.credit.refill)))
    else none
  | none => none

/-- The frame start at which a staged call pattern becomes active (R121). -/
def stagedNeed (x : Subscription) (s : State) : Option LT :=
  match (s.ceu.items.get x).staged, s.tbu.record.get x with
  | some _, some b => some (frameStartIn b (8 - b.fnRef.toNat % 8))
  | _, _ => none

def lostEnd (p : Pattern) : Option LT :=
  match p.pending with
  | .lost _ e => some e
  | _ => none

/-- The would-be ends of the lost occurrences of x (R61). -/
def lostEnds (x : Subscription) (s : State) : List LT :=
  [lostEnd (patternOf x .page s), lostEnd (patternOf x .call s), lostEnd (patternOf x .meas s)].reduceOption

/-- The deadlines registered for x: exchange, lease, confirm, would-be ends (R2). -/
def deadlinesOf (x : Subscription) (s : State) : List LT :=
  [(s.cxm.get x).exchangeDeadline, (s.cxm.get x).leaseDeadline,
   (s.hou.get x).record.bind (·.confirm)].reduceOption ++ lostEnds x s

/-- The needs that carry no lead (R166). -/
def plainNeeds (s : State) : List LT :=
  deadlinesOf .A s ++ deadlinesOf .B s ++
  [s.rsq.probeTime, s.csc.calDue, switchNeed .A s, switchNeed .B s, refillNeed s, stagedNeed .A s,
   stagedNeed .B s].reduceOption

/-- A need time with the given lead on the first ADMITTED entry (R166). -/
def needWith (lead : Nat) (s : State) : Option LT :=
  ltEarliest ((((firstAdmitted s).map (fun e => ltSub e.start lead)).toList) ++ plainNeeds s)

def activityNeed (s : State) : Option LT := needWith Config.dozeLead s
def slumberNeed (s : State) : Option LT := needWith Config.slumberLead s

/-- The wake target of a slumber beginning now: the slumber need, or the calibration interval from now
(R167). -/
def slumberTarget (s : State) : LT := (slumberNeed s).getD (ltAdd (now s) (s.csc.interval * Config.second))

/-! ### Slumber arithmetic (R170) -/

/-- S of a slumber from L0 to W: 0 when W is not later than L0 (R168, test 6). -/
def slumberCycles (l0 w : LT) (c k : Nat) : Nat :=
  if ltAfter w l0 then (w - l0).toNat * 2 ^ c / k else 0

/-- The ticks E of n sleep cycles, and the new F. -/
def slumberTicks (n k f c : Nat) : Nat := (n * k + f) / 2 ^ c
def slumberCarry (n k f c : Nat) : Nat := (n * k + f) % 2 ^ c

/-- The cycle at which a slumber ends: S, or S″ after an early wake (R172). -/
def lastCycle (r : SlumberRecord) (settle : Nat) : Nat :=
  match r.early with
  | some (n, _) => n + settle
  | none => r.s

/-- The nominal K of an exponent and its acceptance window (R177). -/
def nominalK (c : Nat) : Nat := 203125 * 2 ^ (c - 8)
def calWindow (c : Nat) : Nat := nominalK c / 64

/-- A transaction is in progress on some port: its CS_N is low (R173, R184). -/
def transactionInProgress (s : State) : Bool := s.pins.csLow.a || s.pins.csLow.b || s.pins.csLow.p

def anyVote (s : State) : Bool := s.votes.a || s.votes.b || s.votes.p
def anyWake (s : State) : Bool := s.pins.wake.a || s.pins.wake.b || s.pins.wake.p

/-- A calibration is held: WAITING or RUNNING with rescheduled set (R169). -/
def calHeld (c : Csc) : Bool := c.cal != .idle && c.rescheduled

/-- Tests 1 to 6 of R168 with L0 the LT of this edge. -/
def slumberTests (s : State) : Bool :=
  s.csc.slumberPermitted && !anyVote s && !anyWake s && !transactionInProgress s &&
  s.csc.valid && !s.csc.suspect && !calHeld s.csc &&
  decide (s.csc.settle + Config.slumberMargin ≤ slumberCycles (now s) (slumberTarget s) s.csc.c s.csc.k)

end Sys2Proof.Machine
end

