-- ==== Sys2Proof/Machine/Outcome.lean ====
section
/-! DEFINITION. How an entry's end is told: the notice of a one-shot, the loss of an occurrence to its
pattern, the end of a pattern's turn, and the entry's removal from the plan (sections 3-5 and 3-7). -/

namespace Sys2Proof.Machine

/-- The frame start carried by notices about an entry. -/
def Entry.frameOrZero (e : Entry) : FrameTime := e.frame.getD { fn := 0, fp := 0 }

def Entry.lossOf (e : Entry) (r : Reason) : LossDetail := { kind := e.kind, frame := e.frameOrZero, reason := r }

def windowDetail (e : Entry) (r : Option Reason) (level : Option Int) : WindowDetail :=
  { handle := e.handle, kind := e.kind, reason := r, level := level }

/-! ### A pattern's turn (R49, R59, R62) -/

/-- PATTERN_LOST where there is a loss to tell (R62). -/
def tellLoss (x : Subscription) (l : Option LossDetail) (s : State) : State :=
  match l with
  | some d => notify x (.patternLost d) s
  | none => s

/-- The loss of an occurrence a member of which is gone now. DESIGN CHOICE: of two members aborted in turn the loss of the
first is the one told (R49; log 34). -/
def firstLoss (held loss : Option LossDetail) : Option LossDetail := held.orElse (fun _ => loss)

/-- A member of an occurrence that runs on without its pattern has its outcome: with the last member the loss of the
occurrence is told, once, and no next one follows (R21, R49; log 28). A member of an occurrence that has been told already,
as by CALL_YIELD, brings nothing (R62; log 31). -/
def runOnGone (x : Subscription) (h : Handle) (loss : Option LossDetail) (s : State) : State :=
  let l := (s.patterns.get x).runOn
  match l.find? (fun r => r.members.contains h) with
  | some r =>
    let others := l.filter (fun q => !q.members.contains h)
    let rest := r.members.erase h
    if rest.isEmpty then tellLoss x (firstLoss r.loss loss) (setRunOn x others s)
    else setRunOn x (others ++ [{ members := rest, loss := firstLoss r.loss loss }]) s
  | none => s

/-- A member of an occurrence of x's pattern has its outcome, with the loss it suffered if any. When it is the
last member of the pending occurrence the turn ends: the loss of the occurrence is told and the next is due
(R49, R62). -/
def memberGone (x : Subscription) (k : Pat) (h : Handle) (loss : Option LossDetail) (s : State) : State :=
  match (patternOf x k s).pending with
  | .inPlan ms st held =>
    if ms.contains h then
      let rest := ms.erase h
      let l := firstLoss held loss
      if rest.isEmpty then updPattern x k (fun p => { p with pending := .due st }) (tellLoss x l s)
      else updPattern x k (fun p => { p with pending := .inPlan rest st l }) s
    else runOnGone x h loss s
  | _ => runOnGone x h loss s

/-- The outcome of this member is still to come: it is EXECUTING, or its window has ended and is not concluded. -/
def outcomeToCome (s : State) (h : Handle) : Bool :=
  (match findEntry h s with
   | some e => e.state == .executing
   | none => false) || (findEnded h s).isSome

/-- A pattern gives up its pending occurrence, whose members that have not started have left. Members with their outcome
still to come run on, with the loss held; with none left a loss held is told now (R49, R111; DEDUCED, log 28). -/
def letRunOn (x : Subscription) (k : Pat) (s : State) : State :=
  match (patternOf x k s).pending with
  | .inPlan ms _ held =>
    let rest := ms.filter (outcomeToCome s)
    if rest.isEmpty then tellLoss x held s
    else setRunOn x ((s.patterns.get x).runOn ++ [{ members := rest, loss := held }]) s
  | _ => s

/-! ### Records that follow an entry -/

def listenRecordOf (x : Subscription) (h : Handle) (s : State) : Option ListenRecord :=
  (s.pgu.get x).listens.find? (fun r => r.handle == h)

def dropListen (x : Subscription) (h : Handle) (s : State) : State :=
  updPgu x (fun p => { p with listens := p.listens.filter (fun r => r.handle != h) }) s

/-- The read record of a PAGE_READ discarded (R95, R100). -/
def dropRead (x : Subscription) (h : Handle) (s : State) : State :=
  updPgu x (fun p => { p with read := p.read.filter (fun r => r.handle != h) }) s

/-- The frame of a LISTEN in its notices: its listen frame (R100). -/
def listenFrameOf (e : Entry) (s : State) : FN :=
  match listenRecordOf e.owner e.handle s with
  | some r => r.frame
  | none => e.frameOrZero.fn

/-- The frame of a PAGE_READ in its notices: its read frame (R100). -/
def readFrameOf (e : Entry) (s : State) : FN :=
  match (s.pgu.get e.owner).read with
  | some r => if r.handle = e.handle then r.readFrame else e.frameOrZero.fn
  | none => e.frameOrZero.fn

/-- The selection of a gap becomes none (R136). -/
def dropSelection (x : Subscription) (h : Handle) (s : State) : State :=
  setSelection x ((s.selection.get x).filter (fun r => r.handle != h)) s

/-! ### Loss of an entry -/

/-- How an entry failed: removed before EXECUTING, or ended without a report (R52). -/
inductive LossKind where
  | displaced
  | aborted
  deriving DecidableEq, Repr

/-- The reason an occurrence gives for a displacement by priority is DISPLACED (R62, R100). -/
def occurrenceReason : Reason → Reason
  | .priority => .displaced
  | r => r

/-- The loss of an entry that has left the plan is told to its owner, and its pattern's turn goes on (R47, R49,
R52, R62, R79, R100, R150). -/
def tellLost (e : Entry) (how : LossKind) (r : Reason) (s : State) : State :=
  let x := e.owner
  let o := occurrenceReason r
  match e.origin with
  | .oneShot =>
    match how with
    | .displaced => notify x (.displaced (windowDetail e (some r) none)) s
    | .aborted => notify x (.aborted (windowDetail e (some r) none)) s
  | .page => memberGone x .page e.handle none (dropListen x e.handle (pageMissed x e.kind (listenFrameOf e s) o s))
  | .pageRead => dropRead x e.handle (pageMissed x e.kind (readFrameOf e s) o s)
  | .meas => memberGone x .meas e.handle (some (e.lossOf o)) (dropSelection x e.handle s)
  | .call => memberGone x .call e.handle (some (e.lossOf o)) s
  | .sync => notify x (.syncAborted o) s

/-- A member of a call frame that has not started leaves with the other (R49). -/
def partnerLeaves (e : Entry) (s : State) : State :=
  match partnerOf e s with
  | some p => if p.state = .executing then s else memberGone p.owner .call p.handle none (removeEntry p.handle s)
  | none => s

/-- A neighbour window of this gap is open (R77). DESIGN CHOICE: it counts as open from the instant its ON falls due, though
that ON may still wait for the link (R69; log 44). -/
def gapOpen (e : Entry) (s : State) : Bool :=
  match s.rsq.gap with
  | some g => g.handle == e.handle && g.stage == .opened && decide (g.index < g.count)
  | none => false

/-- OFF at once for an entry that is EXECUTING, and no report of it is asked for any more (R35, R77). -/
def cutOff (e : Entry) (s : State) : State :=
  if e.state = .executing then demand (.off .none) (dropReads e.handle s) else s

/-- The same for an entry that is cut, aborted or flushed. DESIGN CHOICE: a gap with no neighbour window open brings no OFF, as
R77 says of an aborted gap beside its 'OFF at once' for a cut (log 41). -/
def offAtOnce (e : Entry) (s : State) : State :=
  if e.state = .executing ∧ e.kind = .measureGap ∧ gapOpen e s = false then dropReads e.handle s else cutOff e s

/-- An entry is aborted at this event: it leaves the plan with its partner that has not started, and its loss
is told (R49, R79). -/
def abortEntry (e : Entry) (r : Reason) (s : State) : State :=
  tellLost e .aborted r (partnerLeaves e (removeEntry e.handle s))

/-- A beaten entry that has not started leaves the plan (R47). -/
def displaceEntry (e : Entry) (r : Reason) (s : State) : State :=
  tellLost e .displaced r (partnerLeaves e (removeEntry e.handle s))

/-- An EXECUTING entry is cut at once: OFF with no report, and the abort told (R48, R53, R77). -/
def cutEntry (e : Entry) (r : Reason) (s : State) : State := abortEntry e r (offAtOnce e s)

/-- An occurrence leaves the plan because its pattern became inactive or is placed afresh, or an entry because
its handover was cancelled: no notice, nothing counted (R21, R63, R151). -/
def dropEntry (e : Entry) (s : State) : State :=
  dropSelection e.owner e.handle (dropListen e.owner e.handle (removeEntry e.handle (offAtOnce e s)))

/-- A list of entries treated one after another. DESIGN CHOICE: where one event removes several entries of one owner they,
and so their notices, come in plan order, which R106 alone says (R47, R53, R56, R190; log 42). -/
def forEntries (f : Entry → State → State) : List Entry → State → State
  | [], s => s
  | e :: es, s => forEntries f es (f e s)

/-! ### Flush, thrift and teardown -/

/-- The one-shots of x leave with FLUSHED, an EXECUTING one cut with OFF; a PAGE_READ that has not started is
removed with PAGE_MISSED, reason FLUSHED (R152 step 3, R157, R161, R102). -/
def flushEntry (e : Entry) (s : State) : State :=
  match e.origin with
  | .oneShot => notify e.owner (.flushed (windowDetail e none none)) (removeEntry e.handle (offAtOnce e s))
  | .pageRead =>
    if e.state = .executing then s
    else dropRead e.owner e.handle
      (pageMissed e.owner e.kind (readFrameOf e s) .flushed (removeEntry e.handle s))
  | _ => s

/-- The flush of x. DESIGN CHOICE: the FLUSHED of one-shots and the PAGE_MISSED of a PAGE_READ enter the queue in plan order,
one among the other (R102, R152, R190; log 42). -/
def flushSub (x : Subscription) (s : State) : State :=
  forEntries flushEntry (s.plan.filter (fun e => e.owner == x)) s

/-- When thrift begins, a SEARCH leaves: DISPLACED if it has not started, cut with ABORTED if it has (R53). -/
def thriftEntry (e : Entry) (s : State) : State :=
  if e.kind = .search then
    if e.state = .executing then cutEntry e .thrift s else displaceEntry e .thrift s
  else s

/-- Thrift begins. DESIGN CHOICE: the notices come in plan order (R53, R190; log 42). -/
def thriftBegins (s : State) : State := forEntries thriftEntry s.plan s

/-- The thrift test of R182 with the effects of a beginning (R53); an end has none beyond the flag. -/
def thriftTest (s : State) : State :=
  let w := thriftWanted s.csc
  let t := updCsc (fun c => { c with thrift := w }) s
  if w && !s.csc.thrift then thriftBegins t else t

/-- At the end of an exchange the EXCH one-shots that have not started leave with DISPLACED, reason
EXCHANGE_END; one that is EXECUTING runs on (R106). -/
def isExch (k : Kind) : Bool := k == .exchRx || k == .exchTx

def exchEnding (x : Subscription) (e : Entry) : Bool :=
  e.owner == x && isExch e.kind && e.state != .executing

def endExchEntries (x : Subscription) (s : State) : State :=
  forEntries (fun e => displaceEntry e .exchangeEnd) (s.plan.filter (exchEnding x)) s

end Sys2Proof.Machine
end

