-- ==== Sys2Proof/Machine/Admission.lean ====
section
/-! DEFINITION. Guards, priorities, conflicts, admission with tune-away, displacement, truncation and abort
(sections 3-2 to 3-6). -/

namespace Sys2Proof.Machine

/-! ### Priority (R41) and guards (R43) -/

/-- The priority a newcomer of this kind and owner receives now (R41). -/
def priorityOf (k : Kind) (x : Subscription) (s : State) : Nat :=
  match k with
  | .search => 0
  | .measureGap => 1
  | .listen => 2
  | .pageRead => 2
  | .exchRx => if inExchange (s.cxm.get x) && s.ceu.claim != some x.other then 3 else 2
  | .exchTx => if inExchange (s.cxm.get x) && s.ceu.claim != some x.other then 3 else 2
  | .callRx => 3
  | .callTx => 3
  | .sync => 3

/-- The guard owed between two entries (R43). -/
def guardOwed (gRetune gTurn : Nat) (e f : Entry) : Nat :=
  if e.owner ≠ f.owner then gRetune
  else if e.channel ≠ f.channel then gRetune
  else if e.dir ≠ f.dir then gTurn
  else 0

/-- Two entries conflict: the later start begins before the earlier one's end plus the guard owed; equal
starts always conflict (R43). -/
def conflicts (gRetune gTurn : Nat) (e f : Entry) : Bool :=
  let g := guardOwed gRetune gTurn e f
  if e.start = f.start then true
  else if ltAfter f.start e.start then !ltReached f.start (ltAdd e.stop g)
  else !ltReached e.start (ltAdd f.stop g)

/-- Conflict under the set guard values, as admission tests it (R44, R45). -/
def meets (s : State) (e f : Entry) : Bool := conflicts s.air.gRetune s.air.gTurn e f

/-- Every two entries keep the given guards (R43). -/
def allKeep (gRetune gTurn : Nat) : List Entry → Bool
  | [] => true
  | e :: es => es.all (fun f => !conflicts gRetune gTurn e f) && allKeep gRetune gTurn es

/-- The guard test of R44: a lowered set value comes into force at once, a raised one when every pair in the
plan keeps it. -/
def guardTest (s : State) : State :=
  let r := if s.air.gRetune ≤ s.guards.retune ∨ allKeep s.air.gRetune s.guards.turn s.plan then s.air.gRetune
           else s.guards.retune
  let t := if s.air.gTurn ≤ s.guards.turn ∨ allKeep r s.air.gTurn s.plan then s.air.gTurn else s.guards.turn
  { s with guards := { retune := r, turn := t } }

/-! ### Obstacles (R45, R46, R49) -/

/-- The plan entries a newcomer's members conflict with. -/
def obstacles (ms : List Entry) (s : State) : List Entry :=
  s.plan.filter (fun e => ms.any (fun m => meets s m e))

/-- An obstacle, or the other member of an obstacle call frame (R49). -/
def isAffected (obs : List Entry) (e : Entry) : Bool :=
  obs.any (fun o => o.handle == e.handle ||
    (o.origin == .call && e.origin == .call && o.owner == e.owner && o.partner == some e.handle))

/-- The obstacles with the other members of their call frames, in plan order. -/
def affected (ms : List Entry) (s : State) : List Entry := s.plan.filter (isAffected (obstacles ms s))

/-- Kinds eligible for tune-away (R56). -/
def isEligible (k : Kind) : Bool := k == .listen || k == .pageRead || k == .exchRx || k == .exchTx

/-- The number of call frames among a list of call entries: each counts once, by its CALL_RX, or by its
CALL_TX where the CALL_RX has left (R56). -/
def callFrames (es : List Entry) : Nat :=
  (es.filter (fun e => e.kind == .callRx || !(es.any (fun f => e.partner == some f.handle)))).length

/-- R56: an eligible newcomer of the subscription without the claim, meeting only call frames of the claim
owner with no member EXECUTING, and credit for each of them. -/
def yieldsCalls (ms : List Entry) (s : State) : Bool :=
  match s.ceu.claim with
  | some y =>
    let fs := affected ms s
    ms.all (fun m => m.owner != y && isEligible m.kind) && !fs.isEmpty &&
    fs.all (fun e => e.origin == .call && e.owner == y && e.state != .executing) &&
    decide (callFrames fs ≤ s.credit.credit)
  | none => false

/-- R57: a call frame of the claim owner meeting only eligible entries of the other subscription, none
EXECUTING, with credit left. -/
def yieldsSelf (ms : List Entry) (s : State) : Bool :=
  match s.ceu.claim with
  | some y =>
    let fs := affected ms s
    ms.all (fun m => m.owner == y && m.origin == .call) && !fs.isEmpty &&
    fs.all (fun e => isEligible e.kind && e.owner != y && e.state != .executing) &&
    decide (1 ≤ s.credit.credit)
  | none => false

/-- A newcomer of this priority beats an obstacle (R46). -/
def beats (p : Nat) (e : Entry) : Bool :=
  if e.state = .executing then decide (e.priority ≤ 1) && decide (e.priority < p) else decide (e.priority < p)

def beatsAll (ms : List Entry) (s : State) : Bool :=
  (affected ms s).all (fun e => ms.any (fun m => beats m.priority e))

/-! ### What admission does to the obstacles -/

/-- The new local end of a cut-back obstacle: the newcomer's start minus the guard owed, the earlier value
where it meets two members (R48). -/
def cutBackEnd (ms : List Entry) (e : Entry) (s : State) : Option LT :=
  ltEarliest ((ms.filter (fun m => meets s m e)).map
    (fun m => ltSub m.start (guardOwed s.air.gRetune s.air.gTurn m e)))

/-- A beaten EXECUTING obstacle is truncated, or aborted with reason CUT where less than 1,300 ticks would
remain or the new end is not later than now (R48). -/
def cutBack (ms : List Entry) (e : Entry) (s : State) : State :=
  match cutBackEnd ms e s with
  | some t =>
    if ltAfter t (now s) && ltReached t (ltAdd e.start Config.minLength) then
      modifyEntry e.handle (fun f => { f with stop := t, cut := true }) s
    else cutEntry e .cut s
  | none => s

/-- A beaten obstacle is displaced if it has not started and cut back if it has (R46 to R48). A member that has left
with its call frame already is passed over (R49). -/
def defeat (ms : List Entry) (e : Entry) (s : State) : State :=
  if !inPlan e.handle s then s
  else if e.state = .executing then cutBack ms e s
  else displaceEntry e .priority s

/-- The frame start that names a call frame in its notices: its CALL_RX's, or its CALL_TX's where the CALL_RX
has left (log 12). -/
def callFrameStart (e : Entry) (s : State) : FrameTime :=
  if e.kind = .callRx then e.frameOrZero
  else match partnerOf e s with
    | some p => p.frameOrZero
    | none => e.frameOrZero

/-- The turn of a call frame given up ends at once, and no loss of a member is told beside CALL_YIELD, neither one held nor
one still to come (R56, R62, R111; log 31). -/
def yieldTurn (x : Subscription) (h : Handle) (s : State) : State :=
  match (patternOf x .call s).pending with
  | .inPlan ms st _ => if ms.contains h then updPattern x .call (fun p => { p with pending := .due st }) s else s
  | _ => s

/-- A call frame given up by tune-away: CALL_YIELD once, at its first member, and its turn ends with no
PATTERN_LOST (R56, R62, R111). DESIGN CHOICE: that holds too where its other member has ended and is aborted, before or
after, by a fault of its OFF or report, for which R49 and R79 would ask a PATTERN_LOST (log 31). -/
def yieldEntry (e : Entry) (s : State) : State :=
  if inPlan e.handle s then
    yieldTurn e.owner e.handle (partnerLeaves e (removeEntry e.handle (notify e.owner (.callYield (callFrameStart e s)) s)))
  else s

def spendCredit (n : Nat) (s : State) : State :=
  { s with credit := { s.credit with credit := s.credit.credit - n } }

/-! ### Placing a newcomer -/

/-- A newcomer of one or two members takes its places: each the lowest free slot, the first member first, and
the two members of a call frame name each other (R39, R49). A moved entry keeps its handle (R11). -/
def placeOne (moved : Bool) (m : Entry) (s : State) : Entry × State :=
  if moved then (m, addEntry m s)
  else match nextHandle s with
    | some h => ({ m with handle := h }, addEntry { m with handle := h } s)
    | none => (m, s)

def linkPartners (h g : Handle) (s : State) : State :=
  modifyEntry g (fun e => { e with partner := some h }) (modifyEntry h (fun e => { e with partner := some g }) s)

def place (moved : Bool) (ms : List Entry) (s : State) : List Handle × State :=
  match ms with
  | [m] =>
    let r := placeOne moved m s
    ([r.1.handle], r.2)
  | [m, n] =>
    let r := placeOne moved m s
    let q := placeOne moved n r.2
    ([r.1.handle, q.1.handle], if moved then q.2 else linkPartners r.1.handle q.1.handle q.2)
  | _ => ([], s)

/-! ### The verdict (R45, R46, R56, R57) -/

/-- What admission answers. A refusal names the reason and the kind of the member concerned. -/
inductive Verdict where
  | admitted (handles : List Handle) (s : State)
  | refused (kind : Kind) (r : Reason)
  | yielded (s : State)

/-- The instant of a newcomer tested against now + 6,500: its earliest member's start (R45, R60). -/
def newcomerStart (ms : List Entry) : Option LT := ltEarliest (ms.map (·.start))

/-- The kind told of a newcomer refused for a conflict: the first member that meets an obstacle which stays
(log 12). -/
def concernedKind (ms : List Entry) (s : State) : Kind :=
  match ms.find? (fun m => (obstacles [m] s).any (fun e => !beats m.priority e)) with
  | some m => m.kind
  | none => (ms.head?.map (·.kind)).getD .callRx

def firstKind (ms : List Entry) : Kind := (ms.head?.map (·.kind)).getD .callRx

def firstFrame (ms : List Entry) : FrameTime := (ms.head?.map Entry.frameOrZero).getD { fn := 0, fp := 0 }

/-- Admission of a newcomer of one member, or of a call frame of two (R45, R46, R49, R56, R57). A moved entry
counts in the capacity already (R11). DESIGN CHOICE: an occurrence that starts too early and finds the plan full is LATE
(log 45), and the obstacles leave in plan order (log 42). -/
def admitEntries (moved : Bool) (ms : List Entry) (s : State) : Verdict :=
  match newcomerStart ms with
  | none => .refused .callRx .conflict
  | some t =>
    if !ltAfter t (ltAdd (now s) Config.prepareLead) then .refused (firstKind ms) .late
    else if !moved && decide (Config.planCapacity < s.plan.length + ms.length) then .refused (firstKind ms) .tableFull
    else if yieldsCalls ms s then
      let fs := affected ms s
      let r := place moved ms (spendCredit (callFrames fs) (forEntries yieldEntry fs s))
      .admitted r.1 r.2
    else if yieldsSelf ms s then
      match s.ceu.claim with
      | some y => .yielded (notify y (.callYield (firstFrame ms)) (spendCredit 1 s))
      | none => .refused (firstKind ms) .conflict
    else if beatsAll ms s then
      let r := place moved ms (forEntries (defeat ms) (affected ms s) s)
      .admitted r.1 r.2
    else .refused (concernedKind ms s) .conflict

end Sys2Proof.Machine
end

