-- ==== Sys2Proof/Machine/Pattern.lean ====
section
/-! DEFINITION. Standing patterns: candidate frames, materialisation, activation, inactivation,
re-materialisation, and the order in which next occurrences are offered (section 3-7; R88, R90, R110, R111,
R126). -/

namespace Sys2Proof.Machine

/-! ### Candidate frames (R60, R90, R110, R126) -/

/-- A candidate lies after the last frame, when there is one (R60). -/
def afterLast (last : Option FN) (c : FN) : Bool :=
  match last with
  | some l => let d := (c - l).toNat; decide (0 < d) && decide (d < 2048)
  | none => true

/-- A candidate does not lie before a named first frame (R63, R116). -/
def notBefore (first : Option FN) (c : FN) : Bool :=
  match first with
  | some f => decide ((c - f).toNat < 2048)
  | none => true

/-- Listen frames from the current frame on: FN mod C = P (R90). -/
def pageCandidates (c : PagingConfig) (fnRef : FN) : List FN :=
  let j := (c.frame + 4096 - fnRef.toNat) % c.cycle
  (List.range 64).map (fun k => fnRef + BitVec.ofNat 12 (j + k * c.cycle))

/-- Marked frames from the current frame on (R110). -/
def callCandidates (p : CallPattern) (fnRef : FN) : List FN :=
  ((List.range 128).map (fun k => fnRef + BitVec.ofNat 12 k)).filter (marked p)

/-- Gap frames: counted from the last frame by the period in force, or every frame from the current one
(R126). -/
def gapCandidates (period : Nat) (last : Option FN) (fnRef : FN) : List FN :=
  match last with
  | some l => (List.range 32).map (fun k => l + BitVec.ofNat 12 ((k + 1) * period))
  | none => (List.range 8).map (fun k => fnRef + BitVec.ofNat 12 k)

/-- A place in the plan not yet taken: the newcomer's handle stands empty until it is admitted. -/
def noHandle : Handle := { slot := 0, gen := 0 }

/-- A newcomer with a frame start, in the fields every kind has (R38, R45). -/
def newcomer (x : Subscription) (o : Origin) (k : Kind) (t : FrameTime) (start : LT) (len ch : Nat) (s : State) :
    Entry :=
  { handle := noHandle, owner := x, origin := o, kind := k, priority := priorityOf k x s, frame := some t,
    start := start, stop := ltAdd start len, channel := ch, txLevel := none, index := none,
    measureList := none, partner := none, state := .admitted, cut := false }

/-- The LISTEN of a candidate frame (R90); none where the frame is past. -/
def listenAt (x : Subscription) (c : PagingConfig) (b : Timebase) (ch : Nat) (s : State) (f : FN) :
    Option (List Entry) :=
  let t : FrameTime := { fn := f, fp := c.listenFp }
  (convert b t).map (fun l => [{ newcomer x .page .listen t l c.listenLen ch s with index := some c.index }])

/-- The call frame of a candidate frame, CALL_RX first (R110). A TX level is clamped silently (R45). -/
def callFrameAt (x : Subscription) (p : CallPattern) (b : Timebase) (ch : Nat) (s : State) (f : FN) :
    Option (List Entry) :=
  let t : FrameTime := { fn := f, fp := p.rxFp }
  let u : FrameTime := { fn := f, fp := p.txFp }
  match convert b t, convert b u with
  | some l, some m =>
    some [newcomer x .call .callRx t l p.rxLen ch s,
          { newcomer x .call .callTx u m p.txLen ch s with txLevel := some (clampTx p.txLevel) }]
  | _, _ => none

/-- The gap of a candidate frame (R126). -/
def gapAt (x : Subscription) (c : MeasConfig) (b : Timebase) (ch : Nat) (s : State) (f : FN) :
    Option (List Entry) :=
  let t : FrameTime := { fn := f, fp := c.fp }
  (convert b t).map (fun l => [newcomer x .meas .measureGap t l c.length ch s])

/-- The first candidate frame that passes the given tests and whose occurrence starts later than now + 6,500,
with that occurrence (R60). -/
def firstCandidate (ok : FN → Bool) (at_ : FN → Option (List Entry)) (nw : LT) : List FN → Option (FN × List Entry)
  | [] => none
  | f :: fs =>
    if ok f then
      match at_ f with
      | some ms =>
        match newcomerStart ms with
        | some t =>
          if ltAfter t (ltAdd nw Config.prepareLead) then some (f, ms) else firstCandidate ok at_ nw fs
        | none => firstCandidate ok at_ nw fs
      | none => firstCandidate ok at_ nw fs
    else firstCandidate ok at_ nw fs

/-! ### Offering an occurrence (R60, R61) -/

/-- The last would-be end of a newcomer's members. -/
def newcomerStop : List Entry → Option LT
  | [] => none
  | m :: ms =>
    match newcomerStop ms with
    | some t => some (if ltReached m.stop t then m.stop else t)
    | none => some m.stop

/-- The occurrence is lost: held with its would-be start and end (R61). A would-be end that is already reached is
signalled at this event: the occurrence is discarded, and the pattern's next is due (R2, R61). -/
def holdLost (x : Subscription) (k : Pat) (ms : List Entry) (s : State) : State :=
  match newcomerStart ms, newcomerStop ms with
  | some t, some u =>
    updPattern x k (fun p => { p with pending := if ltReached (now s) u then .due t else .lost t u }) s
  | _, _ => s

/-- The notice of a lost occurrence (R61, R100). -/
def tellOccurrenceLost (x : Subscription) (k : Pat) (kind : Kind) (frame : FrameTime) (r : Reason) (s : State) : State :=
  match k with
  | .page => pageMissed x kind frame.fn r s
  | _ => notify x (.patternLost { kind := kind, frame := frame, reason := r }) s

/-- The frame start of the newcomer's member of the given kind. -/
def frameOfKind (ms : List Entry) (k : Kind) : FrameTime :=
  match ms.find? (fun m => m.kind == k) with
  | some m => m.frameOrZero
  | none => firstFrame ms

/-- The listen record of an admitted LISTEN: the active configuration and the current epoch (R85, R90). -/
def writeListen (x : Subscription) (k : Pat) (f : FN) (hs : List Handle) (s : State) : State :=
  match k, hs, (s.pgu.get x).active with
  | .page, h :: _, some c =>
    updPgu x (fun p =>
      let r : ListenRecord := { handle := h, frame := f, config := c, epoch := p.epoch }
      { p with listens := r :: p.listens.filter (fun q => q.handle != h) }) s
  | _, _, _ => s

/-- One occurrence offered: its frame becomes the last frame, and the verdict sets the pending occurrence
(R60, R61). -/
def offer (x : Subscription) (k : Pat) (f : FN) (ms : List Entry) (s : State) : State :=
  let t := updPattern x k (fun p => { p with pending := .none, lastFrame := some f, firstFrame := none }) s
  match admitEntries false ms t with
  | .admitted hs u =>
    writeListen x k f hs (updPattern x k
      (fun p => { p with pending := .inPlan hs ((newcomerStart ms).getD (now s)) none }) u)
  | .refused kind r => holdLost x k ms (tellOccurrenceLost x k kind (frameOfKind ms kind) r t)
  | .yielded u => holdLost x k ms u

/-- A call frame whose members G_turn no longer separates is not offered but lost with reason CONFLICT
(R111). -/
def offerCall (x : Subscription) (p : CallPattern) (f : FN) (ms : List Entry) (s : State) : State :=
  if separated p s.air.gTurn then offer x .call f ms s
  else holdLost x .call ms (tellOccurrenceLost x .call .callRx (frameOfKind ms .callRx) .conflict
    (updPattern x .call (fun q => { q with pending := .none, lastFrame := some f, firstFrame := none }) s))

/-! ### Materialisation (R60, R88) -/

/-- A staged paging configuration becomes active at a materialisation (R88). -/
def applyStagedPaging (x : Subscription) (s : State) : State :=
  match (s.pgu.get x).staged with
  | some c => updPgu x (fun p => { p with active := some c, staged := none }) s
  | none => s

def clearPending (x : Subscription) (k : Pat) (s : State) : State :=
  updPattern x k (fun p => { p with pending := .none }) s

/-- The frames a pattern may take now: after the last frame, and not before a named first frame nor, for the
call pattern, before the resume frame (R60, R63, R110, R116). -/
def frameAllowed (x : Subscription) (k : Pat) (s : State) (f : FN) : Bool :=
  let p := patternOf x k s
  afterLast p.lastFrame f && notBefore p.firstFrame f &&
  (if k = .call then notBefore (s.ceu.items.get x).resume f else true)

def materialisePage (x : Subscription) (s : State) : State :=
  let t := applyStagedPaging x s
  match (t.pgu.get x).active, t.tbu.record.get x, (t.cxm.get x).serving with
  | some c, some b, some cell =>
    match firstCandidate (frameAllowed x .page t) (listenAt x c b cell.channel t) (now t)
        (pageCandidates c b.fnRef) with
    | some (f, ms) => offer x .page f ms t
    | none => clearPending x .page t
  | _, _, _ => clearPending x .page t

def materialiseCall (x : Subscription) (s : State) : State :=
  match (s.ceu.items.get x).active, s.tbu.record.get x, (s.cxm.get x).serving with
  | some p, some b, some cell =>
    match firstCandidate (frameAllowed x .call s) (callFrameAt x p b cell.channel s) (now s)
        (callCandidates p b.fnRef) with
    | some (f, ms) => offerCall x p f ms s
    | none => clearPending x .call s
  | _, _, _ => clearPending x .call s

def materialiseMeas (x : Subscription) (s : State) : State :=
  match (s.msu.get x).config, s.tbu.record.get x, (s.cxm.get x).serving with
  | some c, some b, some cell =>
    match firstCandidate (frameAllowed x .meas s) (gapAt x c b cell.channel s) (now s)
        (gapCandidates (gapPeriod s.csc.thrift c.period) (patternOf x .meas s).lastFrame b.fnRef) with
    | some (f, ms) => offer x .meas f ms s
    | none => clearPending x .meas s
  | _, _, _ => clearPending x .meas s

/-- The next occurrence of an active pattern is materialised (R60). -/
def materialise (x : Subscription) (k : Pat) (s : State) : State :=
  if (patternOf x k s).active then
    match k with
    | .page => materialisePage x s
    | .call => materialiseCall x s
    | .meas => materialiseMeas x s
  else clearPending x k s

/-! ### Activation and inactivation (R21, R59, R91) -/

/-- Whether the owner holds a configuration for the pattern (R21). -/
def hasConfig (x : Subscription) (k : Pat) (s : State) : Bool :=
  match k with
  | .page => (s.pgu.get x).active.isSome || (s.pgu.get x).staged.isSome
  | .call => (s.ceu.items.get x).active.isSome
  | .meas => (s.msu.get x).config.isSome

/-- A pattern becomes active, or resumes: its first occurrence is offered with no last frame (R59). -/
def activate (x : Subscription) (k : Pat) (s : State) : State :=
  if hasConfig x k s then
    materialise x k (updPattern x k (fun _ =>
      { active := true, pending := .none, lastFrame := none, firstFrame := none }) s)
  else s

/-- The members of a pending occurrence that are in the plan. -/
def pendingEntries (x : Subscription) (k : Pat) (s : State) : List Entry :=
  match (patternOf x k s).pending with
  | .inPlan ms _ _ => s.plan.filter (fun e => ms.contains e.handle)
  | _ => []

/-- A pattern becomes inactive, is suspended or is removed: a member that has not started leaves with no
notice, one that is EXECUTING runs on and tells its own loss (log 28), a lost occurrence is withdrawn (R21, R59, R91,
R118). -/
def deactivate (x : Subscription) (k : Pat) (s : State) : State :=
  updPattern x k (fun _ => Pattern.atReset)
    (letRunOn x k (forEntries dropEntry ((pendingEntries x k s).filter (fun e => e.state != .executing)) s))

/-- A pattern is placed afresh, with the first frame named if any (R63). DEDUCED: a call frame of which one member has run
and left while the other is ADMITTED has no member PREPARING or EXECUTING, so the other leaves with no notice and the next is
materialised at once (R63, R114, R157; log 35). -/
def rematerialise (x : Subscription) (k : Pat) (first : Option FN) (s : State) : State :=
  if (patternOf x k s).active then
    let es := pendingEntries x k s
    if es.any (fun e => e.state != .admitted) then
      updPattern x k (fun p => { p with lastFrame := none, firstFrame := first }) s
    else
      materialise x k (updPattern x k (fun p =>
        { p with pending := .none, lastFrame := none, firstFrame := first }) (letRunOn x k (forEntries dropEntry es s)))
  else s

/-! ### Next occurrences (R62) -/

/-- The start that a pattern's next occurrence follows, where its turn has ended. -/
def dueStart (x : Subscription) (k : Pat) (s : State) : Option (Subscription × Pat × LT) :=
  match (patternOf x k s).pending with
  | .due t => some (x, k, t)
  | _ => none

/-- The patterns whose next occurrence is due, A before B, and PAGE, CALL, MEAS within one (R62). -/
def duePatterns (s : State) : List (Subscription × Pat × LT) :=
  [dueStart .A .page s, dueStart .A .call s, dueStart .A .meas s,
   dueStart .B .page s, dueStart .B .call s, dueStart .B .meas s].reduceOption

/-- The first of a list of due patterns by the start each follows, the earlier in the list where two are equal
(R62). -/
def firstDue : List (Subscription × Pat × LT) → Option (Subscription × Pat × LT)
  | [] => none
  | d :: ds =>
    match firstDue ds with
    | some e => some (if ltAfter d.2.2 e.2.2 then e else d)
    | none => some d

/-- Next occurrences are offered one at a time, each complete before the next (R62). The bound is above any
number of offers one event can bring (log 18). -/
def materialiseDue : Nat → State → State
  | 0, s => s
  | n + 1, s =>
    match firstDue (duePatterns s) with
    | some (x, k, _) => materialiseDue n (materialise x k s)
    | none => s

def materialiseAll (s : State) : State := materialiseDue 64 s

end Sys2Proof.Machine
end

