-- ==== Sys2Proof/Machine/Measure.lean ====
section
/-! DEFINITION. The Measurement Unit's own operations: filtering, the trigger, the report banks, the pointer
and the selection of a gap (sections 7-3 to 7-7). -/

namespace Sys2Proof.Machine

/-! ### Filtering (R137, R138) -/

/-- A sample filtered into a level: the first sample becomes it, later ones move it by the difference divided
by 2^k, truncated toward zero (R137). -/
def filterLevel (k : Nat) (held : Option Int) (sample : Int) : Int :=
  match held with
  | some l => l + (sample - l).tdiv (2 ^ k)
  | none => sample

/-- A serving sample from a LISTEN or CALL_RX report, taken where the report's channel is the context's serving
channel (R103, R138). -/
def servingSample (x : Subscription) (channel : Nat) (level : Int) (s : State) : State :=
  match (s.cxm.get x).serving with
  | some c =>
    if c.channel = channel then
      updCtx x (fun d => { d with level := some (filterLevel (s.msu.get x).settings.k d.level level) }) s
    else s
  | none => s

/-! ### The ring (R128, R133) -/

def isCell (tag channel : Nat) (n : Neighbour) : Bool := n.tag == tag && n.channel == channel

/-- The position of the record with this tag and channel. -/
def positionOf (tag channel : Nat) (ring : List Neighbour) : Option Nat := ring.findIdx? (isCell tag channel)

/-- The class mask of a class (R125). -/
def MeasSettings.mask (m : MeasSettings) (cls : Nat) : BitVec 4 :=
  match cls with
  | 0 => m.mask0
  | 1 => m.mask1
  | 2 => m.mask2
  | _ => m.mask3

/-- A record is eligible in round r when bit r of its class's mask is set (R133). -/
def eligible (m : MeasSettings) (n : Neighbour) (r : Nat) : Bool := (m.mask n.cls).getLsbD r

/-- The position after this one, with its round: a pass over the end advances the round (R133). -/
def nextPosition (len pos rnd : Nat) : Nat × Nat :=
  if pos + 1 < len then (pos + 1, rnd) else (0, (rnd + 1) % 4)

/-! ### Selection (R134) -/

/-- The scan of R134: at most `fuel` records are examined and at most `room` taken. -/
def scan (m : MeasSettings) (ring : List Neighbour) : Nat → Nat → Nat → Nat → List Taken × Nat × Nat
  | 0, _, pos, rnd => ([], pos, rnd)
  | fuel + 1, room, pos, rnd =>
    if room = 0 then ([], pos, rnd)
    else
      let nx := nextPosition ring.length pos rnd
      match ring[pos]? with
      | some n =>
        if eligible m n rnd then
          let r := scan m ring fuel (room - 1) nx.1 nx.2
          ({ tag := n.tag, channel := n.channel, position := pos, round := rnd } :: r.1, r.2)
        else scan m ring fuel room nx.1 nx.2
      | none => scan m ring fuel room nx.1 nx.2

/-- The capacity of a gap of this length under G (R134). -/
def gapRoom (length g : Nat) : Nat := min 3 (length / (g + Config.neighbourWindow))

/-- The selection held under this handle is void: the gap was PREPARING at a reselection switch (R161 step 5). -/
def startsVoid (e : Entry) (s : State) : Bool :=
  match s.selection.get e.owner with
  | some r => r.handle == e.handle && r.void
  | none => false

/-- The neighbours of a gap that becomes EXECUTING: the selection, the pointer moved to the first taken, the
measure list (R134). A gap that was PREPARING at a reselection switch runs with a void selection (R161; log 32). -/
def selectNeighbours (e : Entry) (g : Nat) (s : State) : State :=
  let x := e.owner
  let m := s.msu.get x
  let r := scan m.settings m.ring m.ring.length (gapRoom e.length g) m.pointer m.round
  let sel : Selection :=
    { handle := e.handle, list := r.1, next := 0, stopPosition := r.2.1, stopRound := r.2.2, void := startsVoid e s }
  let p := match r.1 with
    | t :: _ => (t.position, t.round)
    | [] => r.2
  modifyEntry e.handle (fun f => { f with measureList := some (r.1.map (·.position)) })
    (setSelection x (some sel) (updMsu x (fun n => { n with pointer := p.1, round := p.2 }) s))

/-- A selection held for an executing gap is marked void (R136). -/
def voidSelection (x : Subscription) (s : State) : State :=
  setSelection x ((s.selection.get x).map (fun r => { r with void := true })) s

/-- The gap of x that is PREPARING. -/
def preparingGap (x : Subscription) (s : State) : Option Entry :=
  s.plan.find? (fun e => e.owner == x && e.kind == .measureGap && e.state == .preparing)

/-- A gap that is PREPARING at a reselection switch is to run with a void selection: one is held for it, empty, until
its start makes its own (R161 step 5; log 32). -/
def voidPrepared (x : Subscription) (s : State) : State :=
  match preparingGap x s with
  | some e =>
    let m := s.msu.get x
    setSelection x (some { handle := e.handle, list := [], next := 0, stopPosition := m.pointer, stopRound := m.round,
                           void := true }) s
  | none => s

/-! ### Report banks (R141, R142) -/

/-- Exactly one bank is FILLING (R141): the number of that bank. -/
def fillingBank (m : Msu) : Nat := if m.bank0.state = .filling then 0 else 1

def bankOf (m : Msu) (i : Nat) : Bank := if i = 0 then m.bank0 else m.bank1

def setBank (i : Nat) (b : Bank) (m : Msu) : Msu :=
  if i = 0 then { m with bank0 := b } else { m with bank1 := b }

/-- The READY bank, if there is one. -/
def readyBank (m : Msu) : Option Nat :=
  if m.bank0.state = .ready then some 0 else if m.bank1.state = .ready then some 1 else none

/-- A report record written to the FILLING bank, or dropped with the overflow flag set when it holds 8
(R141). -/
def bankWrite (r : ReportRecord) (b : Bank) : Bank :=
  if b.records.length < Config.bankCapacity then
    { b with records := b.records ++ [r], candidate := b.candidate || r.candidate }
  else { b with overflow := true }

def writeReport (x : Subscription) (r : ReportRecord) (s : State) : State :=
  updMsu x (fun m => setBank (fillingBank m) (bankWrite r (bankOf m (fillingBank m))) m) s

/-- The FILLING bank is due to switch (R142). -/
def switchDue (m : Msu) : Bool :=
  let b := bankOf m (fillingBank m)
  decide (m.settings.threshold ≤ b.records.length) || b.candidate

/-- The bank switch test (R142). -/
def bankSwitch (x : Subscription) (s : State) : State :=
  let m := s.msu.get x
  let i := fillingBank m
  let j := 1 - i
  if switchDue m && (bankOf m j).state == .empty then
    notify x (.bankReady i (bankOf m i).records.length (bankOf m i).overflow)
      (updMsu x (fun n => setBank j { bankOf n j with state := .filling }
        (setBank i { bankOf n i with state := .ready } n)) s)
  else s

/-! ### A neighbour result (R135, R139) -/

/-- The condition of R139 for a filtered level. -/
def aboveServing (serving : Option Int) (hysteresis : Nat) (level : Int) : Bool :=
  match serving with
  | some l => decide (l + hysteresis ≤ level)
  | none => false

/-- The record after a result: filtered, judged, its STALE mark cleared (R137, R139, R141). -/
def judge (m : MeasSettings) (serving : Option Int) (sample : Int) (n : Neighbour) : Neighbour :=
  let l := filterLevel m.k n.level sample
  if aboveServing serving m.hysteresis l then
    let c := min (n.count + 1) m.n
    { n with level := some l, count := c, above := n.above || c == m.n, reported := n.reported || c == m.n,
             stale := false }
  else { n with level := some l, count := 0, above := false, stale := false }

/-- Whether a result gives a CANDIDATE: it sets REPORTED (R139). -/
def firesCandidate (n n' : Neighbour) : Bool := !n.reported && n'.reported

def setNeighbour (x : Subscription) (i : Nat) (n : Neighbour) (s : State) : State :=
  updMsu x (fun m => { m with ring := m.ring.set i n }) s

def tellCandidate (x : Subscription) (fire : Bool) (n : Neighbour) (serving : Option Int) (s : State) : State :=
  if fire then notify x (.candidate n.tag n.channel (n.level.getD 0) (serving.getD 0)) s else s

/-- The pointer moved past a delivered result: to the next listed record, or after the last to the stop
position, each with its round (R135). -/
def pointerAfter (r : Selection) : Nat × Nat :=
  match r.list[r.next + 1]? with
  | some t => (t.position, t.round)
  | none => (r.stopPosition, r.stopRound)

/-- The result of window i of the gap h: discarded where the selection is void or gone, taken in the four
steps of R135 otherwise. -/
def neighbourResult (x : Subscription) (h : Handle) (i : Nat) (sample : Int) (s : State) : State :=
  match s.selection.get x with
  | some r =>
    if r.handle = h ∧ r.void = false ∧ r.next = i then
      match r.list[i]? with
      | some t =>
        match (s.msu.get x).ring[t.position]? with
        | some n =>
          let m := (s.msu.get x).settings
          let serving := (s.cxm.get x).level
          let n' := judge m serving sample n
          let fire := firesCandidate n n'
          let rep : ReportRecord :=
            { tag := n.tag, channel := n.channel, raw := sample, level := n'.level.getD sample,
              round := t.round, stale := n.stale, candidate := fire, above := n'.above }
          let p := pointerAfter r
          setSelection x (some { r with next := r.next + 1 })
            (updMsu x (fun m => { m with pointer := p.1, round := p.2 })
              (bankSwitch x (writeReport x rep (tellCandidate x fire n' serving (setNeighbour x t.position n' s)))))
        | none => s
      | none => s
    else s
  | none => s

/-! ### The swap of the ring (R145) -/

/-- The record of an old serving cell in the ring (R145). -/
def oldServing (c : Cell) (level : Option Int) (offset : Int) : Neighbour :=
  { tag := c.tag, channel := c.channel, cls := 1, offset := some (if offset = -130000 then 129999 else -offset),
    level := level, count := 0, above := false, reported := false, stale := true }

/-- The swap: the old serving cell takes the target's place, or the end of the ring where the target is not in
it and there is room; the context's serving filtered level becomes the target's (R145). -/
def swapRing (x : Subscription) (tag channel : Nat) (offset : Int) (old : Cell) (oldLevel : Option Int) (s : State) :
    State :=
  let ring := (s.msu.get x).ring
  let o := oldServing old oldLevel offset
  match positionOf tag channel ring with
  | some t =>
    voidSelection x (updCtx x (fun c => { c with level := (ring[t]?).bind (·.level) })
      (updMsu x (fun m => { m with ring := m.ring.set t o }) s))
  | none =>
    voidSelection x (updCtx x (fun c => { c with level := none })
      (if ring.length < Config.ringCapacity then updMsu x (fun m => { m with ring := m.ring ++ [o] }) s else s))

end Sys2Proof.Machine
end

