-- ==== Sys2Proof/Machine/Report.lean ====
section
/-! DEFINITION. What becomes of a window when it has ended: the indicator decision and the page read, the
report handed on, the outcome of a one-shot, of a pattern's occurrence, of a SYNC (R54, R75, R78, R92 to R96,
R150). -/

namespace Sys2Proof.Machine

/-! ### The indicator decision (R92 to R95) -/

/-- The decision on a metric, or on an absent report (R92). -/
def decisionOf (c : PagingConfig) : Option Int → Decision
  | some m => if (c.tP : Int) ≤ m then .present else if m ≤ c.tA then .absent else .uncertain
  | none => .uncertain

/-- A PAGE_READ offered from a decision (R94, R95). -/
def offerPageRead (x : Subscription) (r : ListenRecord) (s : State) : State :=
  let f := r.frame + BitVec.ofNat 12 r.config.readOffset
  match s.tbu.record.get x, (s.cxm.get x).serving with
  | some b, some cell =>
    let t : FrameTime := { fn := f, fp := r.config.readFp }
    match convert b t with
    | some l =>
      match admitEntries false [newcomer x .pageRead .pageRead t l r.config.readLen cell.channel s] s with
      | .admitted (h :: _) u =>
        updPgu x (fun p => { p with read := some { handle := h, listenFrame := r.frame, readFrame := f } }) u
      | .admitted [] u => u
      | .refused _ why => pageMissed x .pageRead f why s
      | .yielded u => u
    | none => pageMissed x .pageRead f .late s
  | _, _ => s

/-- PAGE and the page read that follows it; where the timebase has been re-anchored since the LISTEN was
placed no read is offered and it is missed (R94, R102). -/
def pageFound (x : Subscription) (r : ListenRecord) (d : Decision) (metric : Option Int) (s : State) : State :=
  let t := notify x (.page d metric r.frame) s
  if r.epoch = (s.pgu.get x).epoch then offerPageRead x r t
  else pageMissed x .pageRead (r.frame + BitVec.ofNat 12 r.config.readOffset) .flushed t

/-- The outcome of a LISTEN whose window ran: judged against its record, which is then discarded (R92). -/
def judgeListen (e : Entry) (metric : Option Int) (s : State) : State :=
  match listenRecordOf e.owner e.handle s with
  | some r =>
    let t := dropListen e.owner e.handle s
    match decisionOf r.config metric with
    | .absent => t
    | d => pageFound e.owner r d metric t
  | none => s

/-! ### Outcomes (R52, R54, R62, R78) -/

/-- READ_DONE: the read record is discarded and the result window written (R96). -/
def readDone (e : Entry) (level : Int) (s : State) : State :=
  let f := readFrameOf e s
  updPgu e.owner (fun p => { p with window := some { readFrame := f, level := level, age := 0 } })
    (dropRead e.owner e.handle (notify e.owner (.readDone level f) s))

/-- The level a one-shot's notice carries: RX kinds whose report was read (R52). -/
def noticeLevel (e : Entry) (rep : Option (Int × Int)) : Option Int :=
  if e.dir = .rx then rep.map (·.1) else none

def endNotice (c : EndCause) (d : WindowDetail) : NoticeBody :=
  match c with
  | .done => .done d
  | .truncated => .truncated d
  | .cancelled => .cancelled d

/-- The outcome of an ended window is handed on, with its report (level, metric) where one was read. The
owner's use of the report comes before the next occurrence (R54, R62, R75, R78). -/
def handOn (w : EndedWindow) (rep : Option (Int × Int)) (s : State) : State :=
  let e := w.entry
  let x := e.owner
  match e.origin with
  | .oneShot => notifyAt x w.stamp (endNotice w.cause (windowDetail e none (noticeLevel e rep))) s
  | .page =>
    let t := match rep with
      | some (l, _) => servingSample x e.channel l s
      | none => s
    memberGone x .page e.handle none (judgeListen e (rep.map (·.2)) t)
  | .pageRead =>
    match rep with
    | some (l, _) => readDone e l s
    | none => s
  | .call =>
    let t := match rep with
      | some (l, _) => if e.kind = .callRx then servingSample x e.channel l s else s
      | none => s
    memberGone x .call e.handle none t
  | .meas => memberGone x .meas e.handle none (dropSelection x e.handle s)
  | .sync =>
    match rep with
    | some (l, _) => notify x (.syncCompleted l) s
    | none => s

/-- An ended window whose report could not be read, or whose OFF faulted: a LISTEN completes with an absent
report, any other is aborted with reason RADIO (R79). -/
def failEnded (w : EndedWindow) (s : State) : State :=
  match w.entry.origin with
  | .page => handOn w none s
  | .oneShot => notifyAt w.entry.owner w.stamp (.aborted (windowDetail w.entry (some .radio) none)) s
  | _ => tellLost w.entry .aborted .radio s

def dropEnded (h : Handle) (s : State) : State :=
  updRsq (fun r => { r with ended := r.ended.filter (fun w => w.entry.handle != h) }) s

/-- A window joins the ended windows (R75). -/
def addEnded (w : EndedWindow) (s : State) : State := updRsq (fun r => { r with ended := r.ended ++ [w] }) s

def forWindows (f : EndedWindow → State → State) : List EndedWindow → State → State
  | [], s => s
  | w :: ws, s => forWindows f ws (f w s)

end Sys2Proof.Machine
end

