-- ==== Sys2Proof/Machine/Window.lean ====
section
/-! DEFINITION. The start and the end of a plan entry's window, and the neighbour windows of a gap: when each instant is
due, and what it does (R74 to R77). The rows that stand for these instants are in Sequence.lean. -/

namespace Sys2Proof.Machine

/-! ### Neighbour windows of a gap (R76) -/

/-- s_i of the current window, its ON instant and its close. -/
def gapTuneAt (e : Entry) (g : GapRun) : LT := ltAdd e.start (g.index * (g.guard + Config.neighbourWindow))
def gapOnAt (e : Entry) (g : GapRun) : LT := ltAdd (gapTuneAt e g) g.guard
def gapCloseAt (e : Entry) (g : GapRun) : LT := ltAdd (gapTuneAt e g) (g.guard + Config.neighbourWindow)

/-- The current window closes by the gap's local end (R76, R77). -/
def gapFits (e : Entry) (g : GapRun) : Bool := ltReached e.stop (gapCloseAt e g)

/-- The executing gap with its sub-window. -/
def runningGap (s : State) : Option (Entry × GapRun) :=
  match s.rsq.gap with
  | some g => (findEntry g.handle s).map (fun e => (e, g))
  | none => none

/-- The running gap, where its current window still fits before the local end (R76, R77). -/
def fittingGap (s : State) : Option (Entry × GapRun) :=
  (runningGap s).filter (fun p => ltRuns s && decide (p.2.index < p.2.count) && gapFits p.1 p.2)

def gapTuneDue (s : State) : Option GapRun :=
  ((fittingGap s).filter (fun p => p.2.stage == .tuneDue && ltReached (now s) (gapTuneAt p.1 p.2))).map (·.2)

def gapOnDue (s : State) : Option GapRun :=
  ((fittingGap s).filter (fun p => p.2.stage == .onDue && ltReached (now s) (gapOnAt p.1 p.2))).map (·.2)

def gapCloseDue (s : State) : Option GapRun :=
  ((fittingGap s).filter (fun p => p.2.stage == .opened && ltReached (now s) (gapCloseAt p.1 p.2))).map (·.2)

/-- The channel of neighbour window i of x's gap: that of the i-th record taken (R76, R134). -/
def windowChannel (x : Subscription) (i : Nat) (s : State) : Option Nat :=
  (s.selection.get x).bind (fun r => (r.list[i]?).map (·.channel))

def setGap (g : Option GapRun) (s : State) : State := updRsq (fun r => { r with gap := g }) s

/-- TUNE of the current neighbour window: receive, on the neighbour's channel (R76). A window that no selection
names is not begun, nor any after it. -/
def tuneWindow (g : GapRun) (s : State) : State :=
  match windowChannel g.owner g.index s with
  | some ch => demand (.tune (.gap g.handle g.index) ch .rx none none) (setGap (some { g with stage := .onDue }) s)
  | none => setGap (some { g with index := g.count }) s

/-- ON of the current neighbour window (R76). DESIGN CHOICE: the window counts as open from here on, also while that ON waits
for the link (log 44). -/
def openWindow (g : GapRun) (s : State) : State :=
  demand (.on (.gap g.handle g.index)) (setGap (some { g with stage := .opened }) s)

/-- A window closes: OFF now, its report to be read (R76). -/
def closeWindow (g : GapRun) (s : State) : State :=
  demand (.off (.gap g.handle g.index))
    (setGap (some { g with index := g.index + 1, stage := .tuneDue, awaiting := g.awaiting + 1 }) s)

/-! ### Start (R74) -/

/-- The prepared entry whose local start is reached, the previous executing entry having left (R74). -/
def startDue (s : State) : Option Entry :=
  if ltRuns s && (executingEntry s).isNone then
    (preparedEntry s).filter (fun e => ltReached (now s) e.start)
  else none

/-- A gap starts: the MSU selects, the RSQ records the number selected and G, and the first window's TUNE is sent
at the gap's own start (R76, R134). -/
def startGap (e : Entry) (s : State) : State :=
  let t := selectNeighbours e s.air.gRetune s
  let n := ((t.selection.get e.owner).map (fun r => r.list.length)).getD 0
  let g : GapRun := { handle := e.handle, owner := e.owner, count := n, guard := s.air.gRetune, index := 0,
                      stage := .tuneDue, awaiting := 0 }
  if n = 0 then setGap (some g) t else tuneWindow g (setGap (some g) t)

/-- The prepared entry becomes EXECUTING (R74). -/
def startEntry (e : Entry) (s : State) : State :=
  let t := modifyEntry e.handle (fun f => { f with state := .executing }) s
  if e.kind = .measureGap then startGap e t else demand (.on (.entry e.handle)) t

/-! ### Local end (R75, R77) -/

/-- The executing entry whose local end is reached (R75). -/
def endDue (s : State) : Option Entry :=
  if ltRuns s then (executingEntry s).filter (fun e => ltReached (now s) e.stop) else none

/-- How a window that reaches its local end has ended: truncated where R48 shortened it (R52). -/
def endCause (e : Entry) : EndCause := if e.cut then .truncated else .done

/-- The reports of this gap's closed windows that are still to be read. -/
def gapAwaiting (e : Entry) (s : State) : Nat := ((s.rsq.gap.filter (fun g => g.handle == e.handle)).map (·.awaiting)).getD 0

/-- The gap leaves with `n` of its windows still to be concluded; with none its outcome is handed on at once. -/
def leaveGap (e : Entry) (n : Nat) (s : State) : State :=
  let w : EndedWindow := { entry := e, cause := endCause e, stamp := e.stop, awaiting := n }
  if n = 0 then handOn w none (removeEntry e.handle s) else addEnded w (removeEntry e.handle s)

/-- A gap leaves at its local end. A window that closes at this very instant is closed first. One still open, after a
truncation, is closed with OFF and not read; a fault of that OFF aborts the gap, so the outcome waits for it as it waits
for the reports still to come (R76, R77, R79). -/
def endGap (e : Entry) (s : State) : State :=
  let t := match gapCloseDue s with
    | some g => closeWindow g s
    | none => s
  if gapOpen e t then leaveGap e (gapAwaiting e t + 1) (demand (.off (.gapCut e.handle)) t)
  else leaveGap e (gapAwaiting e t) t

/-- The executing entry leaves the plan at its local end, with OFF (R75). -/
def endEntry (e : Entry) (s : State) : State :=
  if e.kind = .measureGap then endGap e s
  else
    let w : EndedWindow := { entry := e, cause := endCause e, stamp := e.stop, awaiting := 0 }
    demand (.off (.ended e.handle)) (addEnded w (removeEntry e.handle s))

/-! ### A local start already reached at the preparation (R2) -/

/-- The local end of the entry just started, already reached, is signalled at the same event (R2). -/
def endReached (h : Handle) (s : State) : State :=
  match endDue s with
  | some e => if e.handle = h then endEntry e s else s
  | none => s

/-- An executing entry whose own local end is reached leaves before the next one starts (R74). -/
def endPrevious (s : State) : State :=
  match endDue s with
  | some e => endEntry e s
  | none => s

/-- The local start of the entry just prepared is a deadline; where it is already reached it is signalled at the event
of the preparation, and so is the local end (R2, R74). -/
def startReached (h : Handle) (s : State) : State :=
  match (preparedEntry s).filter (fun e => e.handle == h && ltReached (now s) e.start) with
  | some e =>
    let t := endPrevious s
    if (executingEntry t).isNone then endReached h (startEntry e t) else t
  | none => s

end Sys2Proof.Machine
end

