-- ==== Sys2Proof/Machine/Settle.lean ====
section
/-! DEFINITION. What every event brings in its train: next occurrences (R62), the guard test (R44), the choice
between ACTIVE and DOZE (R165), the preparation of an entry (R73), the wake target after a slumber (R167), and
the sending of the commands that wait for the link (R69). -/

namespace Sys2Proof.Machine

/-! ### Preparation (R73, R82) -/

/-- A MEASURE_GAP is EXECUTING with a neighbour window still to be closed (R73). -/
def gapBlocks (s : State) : Bool :=
  match runningGap s with
  | some (e, g) => decide (g.index < g.count) && (g.stage == .opened || gapFits e g)
  | none => false

/-- The entry that is to be prepared now, if all the conditions of R73 hold. -/
def toPrepare (s : State) : Option Entry :=
  if ltRuns s && (preparedEntry s).isNone && !gapBlocks s then
    (firstAdmitted s).filter (fun e => ltReached (now s) (ltSub e.start Config.prepareLead))
  else none

/-- The transceiver is ready and settled by the entry's start (R70, R73). -/
def settledFor (e : Entry) (s : State) : Bool := s.rsq.record == .ready && reachedBy e.start s.rsq.settledAt

/-- An entry becomes PREPARING; it is aborted in RADIO_DOWN or on an unsettled transceiver, otherwise its TUNE
falls due, a gap's TUNE being left to its start (R73). -/
def prepare (e : Entry) (s : State) : State :=
  let t := modifyEntry e.handle (fun f => { f with state := .preparing }) s
  if s.rsq.link = .radioDown then abortEntry e .radioDown t
  else if settledFor e s then
    if e.kind = .measureGap then t
    else demand (.tune (.entry e.handle) e.channel e.dir e.index e.txLevel) t
  else abortEntry e .radio t

/-- Entries are prepared while the conditions hold; each aborted one makes room for the next, and a local start already
reached is signalled at once (R2). The bound is the plan's capacity (log 18). -/
def prepareLoop : Nat → State → State
  | 0, s => s
  | n + 1, s =>
    match toPrepare s with
    | some e => prepareLoop n (materialiseAll (startReached e.handle (prepare e s)))
    | none => s

/-! ### ACTIVE or DOZE (R165, R71) -/

/-- An entry is PREPARING or EXECUTING (R65). -/
def sequencing (s : State) : Bool := s.plan.any (fun e => e.state != .admitted)

/-- The power state the inputs of R165 call for is ACTIVE. -/
def wantsActive (s : State) : Bool :=
  sequencing s || reachedBy (now s) ((activityNeed s).map (fun t => ltSub t Config.activeLead))

/-- The choice of R165, with the power command of R71. A change to ACTIVE ends a pending slumber entry and
withdraws the wake target (R167, R168). -/
def choosePower (s : State) : State :=
  if ltRuns s then
    if wantsActive s then
      if s.power.state = .doze then
        demand (.powerUp false false)
          (updPower (fun p => { p with state := .active, entry := none, wakeTarget := none }) s)
      else s
    else if s.power.state = .active then demand .standby (updPower (fun p => { p with state := .doze }) s)
    else s
  else s

/-- The wake target is reached, or withdrawn by a need already reached: POWER_UP and then STANDBY (R72, R167). DESIGN CHOICE:
with the record not DOWN there is nothing to power up, and the target becomes none (log 43). -/
def wakeUp (s : State) : State :=
  let t := updPower (fun p => { p with wakeTarget := none }) s
  if s.rsq.record = .down then demand (.powerUp false true) t else t

/-- While the record is DOWN after a slumber the wake target follows the slumber need (R167); with any other record it is not
recomputed (log 43). -/
def refreshWake (s : State) : State :=
  if ltRuns s && s.power.wakeTarget.isSome && s.rsq.record == .down then
    match slumberNeed s with
    | some t => if ltReached (now s) t then wakeUp s else updPower (fun p => { p with wakeTarget := some t }) s
    | none => s
  else s

/-! ### Sending commands (R68 to R72, R84) -/

/-- The order of R69, smallest first. -/
def Cmd.rank : Cmd → Nat
  | .off _ => 0
  | .on _ => 1
  | .readReport _ => 2
  | .tune _ _ _ _ _ => 3
  | .powerUp _ _ => 4
  | .standby => 4
  | .powerDown => 4
  | .probe => 5
  | .trim _ => 6

/-- A waiting TUNE of the same window (R69). -/
def isTuneOf (t : Target) : Cmd → Bool
  | .tune u _ _ _ _ => u == t
  | _ => false

/-- A waiting command may be sent now: the record is READY for window commands, an ON's own TUNE is not
waiting, and in RADIO_DOWN only PROBE is sent (R68, R69, R82). -/
def sendable (r : Rsq) (c : Cmd) : Bool :=
  match c with
  | .probe => true
  | .off _ => r.link == .up && r.record == .ready
  | .readReport _ => r.link == .up && r.record == .ready
  | .tune _ _ _ _ _ => r.link == .up && r.record == .ready
  | .on t => r.link == .up && r.record == .ready && !r.waiting.any (isTuneOf t)
  | _ => r.link == .up

/-- The sendable command of the smallest rank (R69). DESIGN CHOICE: of two OFFs, ONs, READ_REPORTs or TUNEs, which R69 does not
order among themselves, the one that waits longer goes first (log 46). -/
def pickCmd (r : Rsq) : List Cmd → Option Cmd
  | [] => none
  | c :: cs =>
    match pickCmd r cs with
    | some d => if sendable r c then some (if d.rank < c.rank then d else c) else some d
    | none => if sendable r c then some c else none

/-- A power command whose record value already holds is not sent (R71, log 11). -/
def redundant (r : Rsq) : Cmd → Bool
  | .powerUp fromDown _ => r.record == .ready && !fromDown
  | .standby => r.record == .standby
  | .powerDown => r.record == .down
  | _ => false

/-- settled-at after a POWER_UP sent now (R70). -/
def settledAfter (r : Rsq) (fromDown : Bool) (nw : LT) : Option LT :=
  if fromDown || r.record == .down then some (ltAdd nw Config.powerUpLead)
  else if r.record == .standby then
    let t := ltAdd nw Config.standbyLead
    match r.settledAt with
    | some u => some (if ltReached u t then u else t)
    | none => some t
  else r.settledAt

/-- The record and settled-at after a command is sent (R68, R70); a POWER_DOWN sets settled-at to none. -/
def afterSending (nw : LT) (dozing : Bool) (c : Cmd) (r : Rsq) : Rsq :=
  match c with
  | .powerUp fromDown thenStandby =>
    { r with record := .ready, settledAt := settledAfter r fromDown nw,
             waiting := if thenStandby && dozing then r.waiting ++ [.standby] else r.waiting }
  | .standby => { r with record := .standby }
  | .powerDown => { r with record := .down, settledAt := none }
  | .probe => { r with probeTime := some (ltAdd nw Config.probeInterval), probes := r.probes + 1 }
  | _ => r

/-- A command is sent: it is in flight from now (R69). -/
def send (c : Cmd) (s : State) : State :=
  updRsq (fun r => { afterSending (now s) (s.power.state != .active) c r with inFlight := some (c, now s) }) s

/-- The RSQ's answer to the CSC's slumber request (R72). -/
def answerSlumber (s : State) : State :=
  updPower (fun p => { p with entry := p.entry.map (fun e => { e with answered := true }) }) s

/-- The TBU's request to send TRIM is served now (R18, R84). -/
def trimServed (s : State) : Bool :=
  !s.tbu.delivered && s.rsq.link == .up && s.rsq.record != .down && !sequencing s && s.rsq.waiting.isEmpty &&
  !s.rsq.recoveryOwed

/-- The link is free: a recovery OFF first (R80; before another OFF: log 46), then the waiting commands by the order of R69, then
TRIM. A redundant power command is passed over, and a redundant POWER_DOWN answers the CSC at once (R69, R72, R80,
R84). The bound is the number of waiting commands. -/
def dispatchLoop : Nat → State → State
  | 0, s => s
  | n + 1, s =>
    if s.rsq.recoveryOwed && s.rsq.link == .up && s.rsq.record == .ready then send (.off .recovery) s
    else match pickCmd s.rsq s.rsq.waiting with
      | some c =>
        let t := updRsq (fun r => { r with waiting := r.waiting.erase c }) s
        if redundant s.rsq c then dispatchLoop n (if c = .powerDown then answerSlumber t else t) else send c t
      | none => if trimServed s then send (.trim s.tbu.trimWord) s else s

/-! ### Instants of the RSQ's own at one LT (R69) -/

/-- LT has reached the wake target (R72, R167). -/
def wakeTargetDue (s : State) : Bool := ltRuns s && reachedBy (now s) s.power.wakeTarget

def isProbe : Cmd → Bool
  | .probe => true
  | _ => false

/-- The probe time is reached: PROBE falls due. The next probe time is set when it is sent (R83). -/
def probeDue (s : State) : Bool :=
  ltRuns s && s.rsq.link == .radioDown && reachedBy (now s) s.rsq.probeTime && !s.rsq.waiting.any isProbe

/-- A frame start or a deadline of x that may bring an OFF is reached: a switch or a revert cuts one-shots, a moved entry or
a next occurrence cuts an obstacle (R11, R48, R62, R152, R157, R161). -/
def cutDue (x : Subscription) (s : State) : Bool :=
  frameStartDue x s || (confirmDue x s).isSome || (leaseDue x s).isSome ||
  (lostDue x .page s).isSome || (lostDue x .call s).isSome || (lostDue x .meas s).isSome

/-- An instant that may bring a command for the link is reached at this LT and still to be taken: the commands that fall
due together are sent in the order of R69, whichever of their instants is taken first (DEDUCED, log 39). -/
def instantDue (s : State) : Bool :=
  (startDue s).isSome || (endDue s).isSome || (gapTuneDue s).isSome || (gapOnDue s).isSome || (gapCloseDue s).isSome ||
  wakeTargetDue s || probeDue s || cutDue .A s || cutDue .B s

/-- What waits is sent, where the link is free and no command is still to fall due at this LT (R69). -/
def dispatch (s : State) : State :=
  if ltRuns s && s.rsq.inFlight.isNone && !instantDue s then dispatchLoop (s.rsq.waiting.length + 1) s else s

/-! ### The end of every event -/

/-- What follows any change, within the same event. -/
def settle (s : State) : State :=
  dispatch (refreshWake (choosePower (guardTest (prepareLoop 48 (choosePower (guardTest (materialiseAll s)))))))

end Sys2Proof.Machine
end

