-- ==== Sys2Proof/Machine/Link.lean ====
section
/-! DEFINITION. The rows of the Radio Control Link: acknowledges, window reports, link faults, RADIO_DOWN and
its probes (sections 4-2, 4-4, 4-5, 4-6; R18). -/

namespace Sys2Proof.Machine

/-- The outcome of a step that goes on. -/
abbrev Answered := Host.Outcome State Fault Refusal

/-! ### Acknowledges (R69, R80) -/

/-- The command in flight, where an acknowledge that comes now is in time: one that comes after the 260 ticks is
ignored (R69, log 19). -/
def ackable (s : State) : Option Cmd :=
  match s.rsq.inFlight with
  | some (c, t) => if ltRuns s && ltReached (ltAdd t Config.linkTimeout) (now s) then some c else none
  | none => none

/-- An acknowledged command of any kind frees the link, clears the indicator and sets the count to 0 (R80). -/
def acked (s : State) : State := updRsq (fun r => { r with inFlight := none, indicator := false, faults := 0 }) s

/-- The command kinds RCL_ACK may name. -/
def ackedKind : AckKind → CmdKind
  | .powerUp => .powerUp
  | .standby => .standby
  | .powerDown => .powerDown
  | .tune => .tune
  | .on => .on
  | .off => .off

/-- The gap still runs, or has left the plan with reports still to be read. -/
def gapAwaits (h : Handle) (s : State) : Bool := (s.rsq.gap.map (·.handle)) == some h || (findEnded h s).isSome

/-- One window of a gap that has left the plan is concluded; with the last one the gap's outcome is handed on (R76). -/
def endedReportRead (w : EndedWindow) (s : State) : State :=
  if w.awaiting ≤ 1 then handOn w none (dropEnded w.entry.handle s)
  else updRsq (fun r => { r with ended := r.ended.map (fun v =>
    if v.entry.handle = w.entry.handle then { v with awaiting := v.awaiting - 1 } else v) }) s

/-- The OFF of the window cut at a gap's truncated end is acknowledged (R77). -/
def gapConcluded (h : Handle) (s : State) : State :=
  match findEnded h s with
  | some w => endedReportRead w s
  | none => s

/-- An OFF is acknowledged: a TX window's outcome is complete, an RX window's report is read next, a recovery OFF
clears the debt (R75, R76, R80). DESIGN CHOICE: for an ended window that a teardown has dropped before this acknowledge no
READ_REPORT is sent; one that waits already is sent, and its report discarded (R75; log 36). -/
def offAcked (t : Target) (s : State) : State :=
  match t with
  | .ended h =>
    match findEnded h s with
    | some w =>
      if w.entry.dir = .tx then handOn w none (dropEnded h s) else demand (.readReport (.ended h)) s
    | none => s
  | .gap h i => if gapAwaits h s then demand (.readReport (.gap h i)) s else s
  | .gapCut h => gapConcluded h s
  | .recovery => updRsq (fun r => { r with recoveryOwed := false }) s
  | .entry _ => s
  | .none => s

/-- What an acknowledge of this command brings beyond R80. -/
def commandAcked (c : Cmd) (s : State) : State :=
  match c with
  | .off t => offAcked t s
  | .powerDown => answerSlumber s
  | _ => s

/-- RCL_ACK: an acknowledge that names the kind of the command in flight (R69, R72, R75, R80); any other is no
acknowledge and changes nothing. -/
def execRclAck (kind : AckKind) (s : State) : Answered :=
  match ackable s with
  | some c => if c.kind = ackedKind kind then .next (settle (commandAcked c (acked s))) else .next s
  | none => .next s

/-! ### Window reports (R76, R78) -/

/-- One report of a gap is read: when the last one of a gap that has left the plan is in, its outcome is handed
on (R76). -/
def gapReportRead (h : Handle) (s : State) : State :=
  match s.rsq.gap with
  | some g =>
    if g.handle = h then updRsq (fun r => { r with gap := some { g with awaiting := g.awaiting - 1 } }) s else s
  | none => s

/-- The subscription a gap belongs to, while it runs or awaits its reports. -/
def gapOwner (h : Handle) (s : State) : Option Subscription :=
  match findEnded h s with
  | some w => some w.entry.owner
  | none => (s.rsq.gap.filter (fun g => g.handle == h)).map (·.owner)

/-- A window report is read (R78): the clamped level and metric go to the blocks that use them. A report whose
window was torn down or aborted is discarded (R75, R77). -/
def reportRead (t : Target) (level metric : Int) (s : State) : State :=
  match t with
  | .ended h =>
    match findEnded h s with
    | some w => handOn w (some (clampLevel level, clampMetric metric)) (dropEnded h s)
    | none => s
  | .gap h i =>
    match gapOwner h s with
    | some x =>
      let u := neighbourResult x h i (clampLevel level) s
      match findEnded h u with
      | some w => endedReportRead w u
      | none => gapReportRead h u
    | none => s
  | _ => s

/-- READ_REPORT_ACK (R69, R78). -/
def execReadReportAck (level metric : Int) (s : State) : Answered :=
  match ackable s with
  | some (.readReport t) => .next (settle (reportRead t level metric (acked s)))
  | _ => .next s

/-- TRIM_ACK: the delivered flag is set when the word carried is still the current word (R18, R84). -/
def execTrimAck (s : State) : Answered :=
  match ackable s with
  | some (.trim w) =>
    let t := acked s
    .next (settle (if w = s.tbu.trimWord then updTbu (fun b => { b with delivered := true }) t else t))
  | _ => .next s

/-! ### Link faults (R79 to R81) -/

/-- A fault is counted: the indicator is set and the count rises by 1, stopping at 3 (R80). -/
def faulted (s : State) : State :=
  updRsq (fun r => { r with inFlight := none, indicator := true, faults := min 3 (r.faults + 1) }) s

def oweRecovery (s : State) : State := updRsq (fun r => { r with recoveryOwed := true }) s

/-- An entry still in the plan is aborted with reason RADIO (R79). -/
def abortRadio (h : Handle) (s : State) : State :=
  match findEntry h s with
  | some e => abortEntry e .radio s
  | none => s

/-- An ended window's outcome after a fault of its READ_REPORT (R79). -/
def closeEnded (h : Handle) (s : State) : State :=
  match findEnded h s with
  | some w => failEnded w (dropEnded h s)
  | none => s

/-- A fault in a neighbour window aborts the gap if it is still executing, or its outcome if it has left the plan
(R76, R79). -/
def abortGap (h : Handle) (s : State) : State := if inPlan h s then abortRadio h s else closeEnded h s

/-- The same for a report that could not be read, when the next window may be open and is closed with OFF
(R77). -/
def cutGap (h : Handle) (s : State) : State :=
  match findEntry h s with
  | some e => cutEntry e .radio s
  | none => closeEnded h s

/-- The OFF of an ended window faulted: a cancelled one-shot's outcome stands without a report, any other window
is closed as after a READ_REPORT fault (R79). -/
def offFaulted (h : Handle) (s : State) : State :=
  match findEnded h s with
  | some w => if w.cause = .cancelled then handOn w none (dropEnded h s) else failEnded w (dropEnded h s)
  | none => s

/-- The treatment of R79 by the command that faulted. -/
def treatFault (c : Cmd) (s : State) : State :=
  match c with
  | .tune (.entry h) _ _ _ _ => abortRadio h s
  | .tune (.gap h _) _ _ _ _ => abortGap h s
  | .on (.entry h) => oweRecovery (abortRadio h s)
  | .on (.gap h _) => oweRecovery (abortGap h s)
  | .off (.ended h) => oweRecovery (offFaulted h s)
  | .off (.gap h _) => oweRecovery (abortGap h s)
  | .off (.gapCut h) => oweRecovery (abortGap h s)
  | .off _ => oweRecovery s
  | .readReport (.ended h) => closeEnded h s
  | .readReport (.gap h _) => cutGap h s
  | .powerDown => answerSlumber s
  | _ => s

/-- An entry that is still in the plan is aborted with reason RADIO_DOWN, with no command (R81). -/
def abortDown (e : Entry) (s : State) : State := if inPlan e.handle s then abortEntry e .radioDown s else s

/-- The third consecutive fault: the link is RADIO_DOWN (R81). A slumber entry still unanswered is answered at
once (R72). -/
def radioDown (k : CmdKind) (s : State) : State :=
  let t := updRsq (fun r => { r with link := .radioDown, ended := [], recoveryOwed := false, waiting := [],
                                     probeTime := some (ltAdd (now s) Config.probeInterval), probes := 0 }) s
  let u := forEntries abortDown (t.plan.filter (fun e => e.state != .admitted)) t
  answerSlumber (notifyAll (.radioDown k) (forWindows failEnded s.rsq.ended u))

/-- The 260 ticks of the command in flight have run out (R69). -/
def timedOut (s : State) : Option Cmd :=
  match s.rsq.inFlight with
  | some (c, t) => if ltRuns s && ltReached (now s) (ltAdd t Config.linkTimeout) then some c else none
  | none => none

/-- LINK_FAULT (R79 to R81). -/
def execLinkFault (s : State) : Answered :=
  match timedOut s with
  | some c =>
    let t := treatFault c (faulted s)
    .next (settle (if t.rsq.faults = 3 ∧ t.rsq.link = .up then radioDown c.kind t else t))
  | none => .next s

/-! ### Probes (R83) -/

/-- PROBE_TIME (R83). -/
def execProbeTime (s : State) : Answered :=
  if probeDue s then .next (settle (updRsq (fun r => { r with waiting := r.waiting ++ [.probe] }) s)) else .next s

/-- The link is UP again: no probe time, nothing waiting. -/
def linkUp (s : State) : State := updRsq (fun r => { r with link := .up, probeTime := none, waiting := [] }) s

/-- The link returns UP: RADIO_UP to the three ports, POWER_UP sent at this event as from DOWN, and then STANDBY unless
the CSC is ACTIVE, the trim word to be sent again. An entry to be prepared at this event so finds the transceiver
settling (R83). -/
def radioUp (s : State) : State :=
  updTbu (fun b => { b with delivered := false })
    (send (.powerUp true true) (choosePower (notifyAll (.radioUp s.rsq.probes) (linkUp s))))

/-- PROBE_ACK (R69, R83). -/
def execProbeAck (s : State) : Answered :=
  match ackable s with
  | some .probe => .next (settle (radioUp (acked s)))
  | _ => .next s

end Sys2Proof.Machine
end

