-- ==== Sys2Proof/Machine/Sequence.lean ====
section
/-! DEFINITION. The instants of a plan entry: preparation, start, the windows inside a gap, local end; the
would-be end of a lost occurrence; the instant at which the activity need calls for ACTIVE (sections 4-4, 3-7,
9-2). -/

namespace Sys2Proof.Machine

/-! ### Preparation and start (R73, R74) -/

/-- PREPARE_ENTRY (R73). -/
def execPrepareEntry (s : State) : Answered :=
  match toPrepare s with
  | some e => .next (settle (startReached e.handle (prepare e s)))
  | none => .next s

/-- ENTRY_START (R74). -/
def execEntryStart (s : State) : Answered :=
  match startDue s with
  | some e => .next (settle (startEntry e s))
  | none => .next s

/-! ### Windows of a gap (R76) -/

/-- GAP_WINDOW_TUNE: TUNE of a window after the first (R76). -/
def execGapWindowTune (s : State) : Answered :=
  match gapTuneDue s with
  | some g => .next (settle (tuneWindow g s))
  | none => .next s

/-- GAP_WINDOW_ON (R76). -/
def execGapWindowOn (s : State) : Answered :=
  match gapOnDue s with
  | some g => .next (settle (openWindow g s))
  | none => .next s

/-- GAP_WINDOW_END (R76). -/
def execGapWindowEnd (s : State) : Answered :=
  match gapCloseDue s with
  | some g => .next (settle (closeWindow g s))
  | none => .next s

/-! ### Local end (R75, R77) -/

/-- ENTRY_END (R75). -/
def execEntryEnd (s : State) : Answered :=
  match endDue s with
  | some e => .next (settle (endEntry e s))
  | none => .next s

/-- An EXECUTING one-shot is ended by its CANCEL: OFF, for an RX kind READ_REPORT after it, and CANCELLED with the
partial level when that is read (R51, R77). -/
def cancelExecuting (e : Entry) (s : State) : State :=
  let w : EndedWindow := { entry := e, cause := .cancelled, stamp := now s, awaiting := 0 }
  demand (.off (.ended e.handle)) (addEnded w (removeEntry e.handle s))

/-! ### Lost occurrences and the activity need (R61, R165) -/

/-- A lost occurrence is discarded: the pattern's next is due (R61). -/
def lostEnded (x : Subscription) (k : Pat) (st : LT) (s : State) : State :=
  updPattern x k (fun p => { p with pending := .due st }) s

/-- The lost occurrence of x's pattern is discarded where its would-be end is reached. -/
def endLost (x : Subscription) (k : Pat) (s : State) : State :=
  match lostDue x k s with
  | some st => lostEnded x k st s
  | none => s

/-- Every would-be end reached at one LT is taken together, so that the next occurrences are materialised in the order of
R62 (DEDUCED, log 39). -/
def endAllLost (s : State) : State :=
  endLost .B .meas (endLost .B .call (endLost .B .page (endLost .A .meas (endLost .A .call (endLost .A .page s)))))

/-- LOST_OCCURRENCE_END (R61, R62). -/
def execLostOccurrenceEnd (x : Subscription) (p : Pat) (s : State) : Answered :=
  if (lostDue x p s).isSome then .next (settle (endAllLost s)) else .next s

/-- LT has reached the activity need minus 26,000 in DOZE (R165). -/
def activityDue (s : State) : Bool := ltRuns s && s.power.state == .doze && wantsActive s

/-- ACTIVITY_NEED_REACHED: the state becomes ACTIVE and the RSQ sends POWER_UP (R71, R165). -/
def execActivityNeedReached (s : State) : Answered :=
  if activityDue s then .next (settle (choosePower s)) else .next s

end Sys2Proof.Machine
end

