-- ==== Sys2Proof/Machine/Anchor.lean ====
section
/-! DEFINITION. Changes of a timebase record and what they bring: frame starts, slews, re-anchoring, the switch of
a handover and of a reselection, the end of a handover (R5, R6, R9 to R14, R32, R55, R97, R114, R116, R147 to
R161). -/

namespace Sys2Proof.Machine

/-! ### Slews (R11) -/

/-- The frame start of an entry that keeps its local time while LT_ref moves by δ (R11). -/
def slewFrame (d : Int) (t : FrameTime) : FrameTime :=
  let p : Int := t.fp - d
  if p < 0 then { fn := t.fn - 1, fp := (p + Config.frameTicks).toNat }
  else if Config.frameTicks ≤ p then { fn := t.fn + 1, fp := (p - Config.frameTicks).toNat }
  else { fn := t.fn, fp := p.toNat }

/-- The other member of this entry's call frame is PREPARING or EXECUTING (R11). -/
def partnerStarted (e : Entry) (s : State) : Bool :=
  match partnerOf e s with
  | some p => p.state != .admitted
  | none => false

/-- The entries of x that a slew concerns: those with a frame start (R11). -/
def hasFrameOf (x : Subscription) (e : Entry) : Bool := e.owner == x && e.frame.isSome

/-- An entry that a slew moves: ADMITTED, and not the partner of a member that has started (R11). -/
def isMoved (x : Subscription) (s : State) (e : Entry) : Bool :=
  hasFrameOf x e && e.state == .admitted && !partnerStarted e s

/-- An entry that keeps its local times has its frame start rewritten (R11). -/
def rewriteKept (x : Subscription) (d : Int) (s : State) (e : Entry) : Entry :=
  if hasFrameOf x e && !isMoved x s e then { e with frame := e.frame.map (slewFrame d) } else e

def moveEntry (d : Int) (e : Entry) : Entry := { e with start := ltAddInt e.start d, stop := ltAddInt e.stop d }

/-- The entry, moved too, with which a moved entry makes up a call frame: its own kind and its partner's are the two given,
and the two name each other (R11, R49). -/
def movedMate (es : List Entry) (own other : Kind) (e : Entry) : Option Entry :=
  if e.kind = own then
    es.find? (fun p => p.kind == other && e.partner == some p.handle && p.partner == some e.handle)
  else none

/-- Moved entries as newcomers: the two members of a call frame together, at its CALL_RX (R11). -/
def groupOf (es : List Entry) (e : Entry) : Option (List Entry) :=
  match movedMate es .callRx .callTx e with
  | some p => some [e, p]
  | none => if (movedMate es .callTx .callRx e).isSome then none else some [e]

def startsAfter (a b : List Entry) : Bool :=
  match newcomerStart a, newcomerStart b with
  | some t, some u => ltAfter t u
  | _, _ => false

def insertGroup (g : List Entry) : List (List Entry) → List (List Entry)
  | [] => [g]
  | h :: hs => if startsAfter h g then g :: h :: hs else h :: insertGroup g hs

/-- Newcomers in order of their new local start, earliest first (R11). -/
def sortGroups : List (List Entry) → List (List Entry)
  | [] => []
  | g :: gs => insertGroup g (sortGroups gs)

/-- The pattern whose occurrence an entry is. -/
def patOf (o : Origin) : Option Pat :=
  match o with
  | .page => some .page
  | .call => some .call
  | .meas => some .meas
  | _ => none

def raiseGens : List Entry → State → State
  | [], s => s
  | e :: es, s => raiseGens es (raiseGen e.handle.slot s)

/-- The loss held of x's pending call frame: that of a member already gone (R49). -/
def heldLoss (x : Subscription) (s : State) : Option LossDetail :=
  match (patternOf x .call s).pending with
  | .inPlan _ _ held => held
  | _ => none

/-- A moved newcomer that loses is told with reason SLEW: a one-shot leaves, an occurrence is lost to its pattern
with its moved would-be end (R11, R61, R100). A call frame of which one member was aborted before is told by that first
loss (log 34). -/
def slewLost (ms : List Entry) (kind : Kind) (s : State) : State :=
  match ms with
  | [] => s
  | e :: _ =>
    let x := e.owner
    let t := raiseGens ms s
    match e.origin with
    | .oneShot => notify x (.displaced (windowDetail e (some .slew) none)) t
    | .page => holdLost x .page ms (dropListen x e.handle (pageMissed x e.kind (listenFrameOf e t) .slew t))
    | .pageRead => dropRead x e.handle (pageMissed x e.kind (readFrameOf e t) .slew t)
    | .meas => holdLost x .meas ms (notify x (.patternLost (e.lossOf .slew)) t)
    | .call =>
      holdLost x .call ms (tellLoss x
        (firstLoss (heldLoss x t) (some { kind := kind, frame := frameOfKind ms kind, reason := .slew })) t)
    | .sync => t

/-- The pending occurrence of a pattern whose entries a slew moves starts δ later with them: its turn is ordered by the
moved start (R11, R62). A call frame whose first member has run keeps that member's start. -/
def shiftPending (d : Int) (moved : List Entry) (p : Pattern) : Pattern :=
  match p.pending with
  | .inPlan ms st l =>
    if moved.any (fun e => ms.contains e.handle && e.start == ltAddInt st d) then
      { p with pending := .inPlan ms (ltAddInt st d) l }
    else p
  | _ => p

def shiftPatterns (d : Int) (moved : List Entry) (p : Patterns) : Patterns :=
  { p with page := shiftPending d moved p.page, call := shiftPending d moved p.call, meas := shiftPending d moved p.meas }

/-- One moved newcomer is offered to admission again (R11). -/
def reoffer (ms : List Entry) (s : State) : State :=
  match admitEntries true ms s with
  | .admitted _ t => t
  | .refused kind _ => slewLost ms kind s
  | .yielded t =>
    match ms with
    | e :: _ => holdLost e.owner .call ms (raiseGens ms t)
    | [] => t

def reofferAll : List (List Entry) → State → State
  | [], s => s
  | g :: gs, s => reofferAll gs (reoffer g s)

/-- A slew δ of x's record is brought to its entries (R11). The record has been advanced. -/
def applySlew (x : Subscription) (d : Int) (s : State) : State :=
  let moved := (s.plan.filter (isMoved x s)).map (moveEntry d)
  reofferAll (sortGroups (moved.filterMap (groupOf moved)))
    { s with plan := (s.plan.map (rewriteKept x d s)).filter (fun e => !isMoved x s e),
             patterns := s.patterns.upd x (shiftPatterns d moved) }

/-! ### Re-anchoring (R14, R102, R153) -/

/-- The entries of x that stay in the plan keep their local times and take the frame start that converts to them
through the new record (R153). -/
def realign (x : Subscription) (b : Timebase) (s : State) : State :=
  { s with plan := s.plan.map (fun e =>
      if hasFrameOf x e then { e with frame := some (frameOf b e.start) } else e) }

/-- A record is set anew: the pending slew is discarded, the epoch rises, staying entries are realigned (R14, R102,
R153). -/
def reanchor (x : Subscription) (fn : FN) (lt : LT) (s : State) : State :=
  let b : Timebase := { fnRef := fn, ltRef := lt, slew := none }
  realign x b (updPgu x (fun p => { p with epoch := p.epoch + 1 }) (updRecord x (some b) s))

def setServing (x : Subscription) (c : Cell) (level : Option Int) (s : State) : State :=
  updCtx x (fun k => { k with serving := some c, level := level }) s

def setResume (x : Subscription) (f : Option FN) (s : State) : State := updCeu x (fun i => { i with resume := f }) s

def setFallback (f : Option (Subscription × Timebase)) (s : State) : State := updTbu (fun t => { t with fallback := f }) s

def setHandover (x : Subscription) (r : Option HandoverRecord) (s : State) : State :=
  updHou x (fun h => { h with record := r }) s

/-! ### The switch of a handover (R152, R154) -/

/-- The target record is taken out of the ring and held with its position (R154). -/
def setAside (x : Subscription) (r : HandoverRecord) (s : State) : Option (Neighbour × Nat) × State :=
  let ring := (s.msu.get x).ring
  match positionOf r.tag r.channel ring with
  | some t => ((ring[t]?).map (fun n => (n, t)), voidSelection x (updMsu x (fun m => { m with ring := m.ring.eraseIdx t }) s))
  | none => (none, s)

/-- The switch, at the frame start of FN_s, after the advance of the record (R152). -/
def switchHandover (x : Subscription) (r : HandoverRecord) (b : Timebase) (s : State) : State :=
  let c := s.cxm.get x
  let s2 := deactivate x .meas (deactivate x .page (setFallback (some (x, { b with slew := none })) s))
  let lt := ltAddInt b.ltRef r.offset
  let s4 := reanchor x r.fnNew lt (flushSub x s2)
  let held := setAside x r s4
  let r' : HandoverRecord :=
    { r with phase := .switched, fallbackCell := c.serving.map (fun k => { cell := k, level := c.level }),
             held := held.1, confirm := some (ltAdd (now s) (r.limit * Config.frameTicks)) }
  let s5 := setServing x { tag := r.tag, channel := r.channel } (held.1.bind (·.1.level))
    (setHandover x (some r') held.2)
  let resume := r.fnNew + BitVec.ofNat 12 r.syncFrames
  let s6 := if c.prior = some .call then rematerialise x .call (some resume) (setResume x (some resume) s5) else s5
  notify x (.handoverSwitched r.fnNew (lt - now s).toInt r.limit) s6

/-! ### The switch of a reselection (R161) -/

def switchReselect (x : Subscription) (r : ReselectRecord) (b : Timebase) (s : State) : State :=
  let c := s.cxm.get x
  let s2 := reanchor x r.fnNew (ltAddInt b.ltRef r.offset) (flushSub x s)
  let s3 := setServing x { tag := r.tag, channel := r.channel } c.level s2
  let s4 := match c.serving with
    | some old => swapRing x r.tag r.channel r.offset old c.level s3
    | none => s3
  let s5 := rematerialise x .meas none (rematerialise x .page none (applyStagedPaging x (voidPrepared x s4)))
  notify x (.reselectDone r.tag r.channel r.fnNew) (updHou x (fun h => { h with reselect := none }) s5)

/-! ### Listeners of a frame start (R5) -/

/-- A staged call pattern becomes active at a frame start with FN mod 8 = 0 (R114). -/
def activateStagedCall (x : Subscription) (fn : FN) (s : State) : State :=
  let i := s.ceu.items.get x
  match i.staged with
  | some p =>
    if fn.toNat % 8 = 0 then
      rematerialise x .call i.resume (updCeu x (fun j => { j with active := some p, staged := none }) s)
    else s
  | none => s

/-- A frame start of the claim owner counts towards the credit (R55, R121). -/
def refillCredit (a : AirSettings) (c : Credit) : Credit :=
  if a.refillFrames ≤ c.refill + 1 then
    { credit := if c.credit < a.creditMax then c.credit + 1 else c.credit, refill := 0 }
  else { c with refill := c.refill + 1 }

def countRefill (x : Subscription) (s : State) : State :=
  if s.ceu.claim = some x then { s with credit := refillCredit s.air s.credit } else s

/-- The frame start of the resume frame makes the resume frame none (R116). -/
def reachResume (x : Subscription) (fn : FN) (s : State) : State :=
  if (s.ceu.items.get x).resume = some fn then setResume x none s else s

/-- The result window ages, and is discarded at age 8 (R97). -/
def ageWindow (w : ResultWindow) : Option ResultWindow :=
  if 8 ≤ w.age + 1 then none else some { w with age := w.age + 1 }

def ageResult (x : Subscription) (s : State) : State :=
  updPgu x (fun p => { p with window := p.window.bind ageWindow }) s

/-- The frame start is signalled with the FN_ref the record now holds (R5, R14). DESIGN CHOICE: R5 gives its listeners no
order; a staged call pattern is activated, and its call frame offered, under the credit as it stood before this frame start
is counted towards the refill (R55, R121; log 33). -/
def signalFrame (x : Subscription) (s : State) : State :=
  match s.tbu.record.get x with
  | some b => ageResult x (reachResume x b.fnRef (countRefill x (activateStagedCall x b.fnRef s)))
  | none => s

/-! ### Frame starts (R5, R6) -/

/-- The advance of a record at a frame start (R5). -/
def advance (b : Timebase) : Timebase :=
  { fnRef := b.fnRef + 1, ltRef := ltAddInt (ltAdd b.ltRef Config.frameTicks) (b.slew.getD 0), slew := none }

/-- The reselection that this frame start carries out. -/
def reselectAt (x : Subscription) (fn : FN) (s : State) : Option ReselectRecord :=
  (s.hou.get x).reselect.filter (fun r => r.fnS == fn)

/-- The handover that this frame start switches. -/
def switchAt (x : Subscription) (fn : FN) (s : State) : Option HandoverRecord :=
  (s.hou.get x).record.filter (fun r => r.phase == .armed && r.fnS == fn)

/-- The pending slew that this frame start applies is brought to the entries (R5, R11). -/
def bringSlew (x : Subscription) (d : Option Int) (s : State) : State :=
  match d with
  | some v => applySlew x v s
  | none => s

/-- The switch of an armed handover, where this frame start is its switch frame (R152). -/
def switchHere (x : Subscription) (b : Timebase) (s : State) : State :=
  match switchAt x b.fnRef s with
  | some r => switchHandover x r b s
  | none => s

/-- A frame start of x is taken: the record advances, a slew is brought to the entries, a switch of this frame is
carried out, and the frame start is signalled (R5, R11, R14, R152, R161). DESIGN CHOICE: the next occurrences of patterns
that a slew's re-admission displaces are offered after the frame start has been signalled, with what the event brings in its
train (R11, R47, R62; log 40). -/
def takeFrameStart (x : Subscription) (s : State) : State :=
  match s.tbu.record.get x with
  | some b =>
    let b' := advance b
    let t := updRecord x (some b') s
    match reselectAt x b'.fnRef s with
    | some r => signalFrame x (switchReselect x r b' t)
    | none => signalFrame x (switchHere x b' (bringSlew x b.slew t))
  | none => s

/-- FRAME_START (R5). -/
def execFrameStart (x : Subscription) (s : State) : Answered :=
  if frameStartDue x s then .next (settle (takeFrameStart x s)) else .next s

/-- The fallback timebase advances, with no slew and no listener (R6). -/
def takeFallbackStart (s : State) : State :=
  match s.tbu.fallback with
  | some (x, b) => setFallback (some (x, advance { b with slew := none })) s
  | none => s

def fallbackDue (s : State) : Bool := ltRuns s && frameDue (now s) (s.tbu.fallback.map (·.2))

/-- FALLBACK_FRAME_START (R6). -/
def execFallbackFrameStart (s : State) : Answered :=
  if fallbackDue s then .next (takeFallbackStart s) else .next s

/-! ### The end of a handover (R32, R151, R156, R157) -/

/-- The context returns to its prior state; an exchange's deadline is set anew (R32, R107). -/
def returnContext (x : Subscription) (s : State) : State :=
  let nw := now s
  let timer := (s.ceu.items.get x).timer
  updCtx x (fun c =>
    match c.prior with
    | some .call => { c with state := .call, prior := none }
    | some .exchange =>
      { c with state := .exchange, prior := none,
               exchangeDeadline := timer.map (fun t => ltAdd nw (t * Config.frameTicks)) }
    | _ => { c with state := .camped, prior := none }) s

/-- MEAS resumes, and PAGE becomes active where the state reached calls for it (R32, R156, R157, log 17). -/
def resumePatterns (x : Subscription) (s : State) : State :=
  let t := activate x .meas s
  if pageCalled x t then activate x .page t else t

/-- The held target record is returned to its position (R154). -/
def returnHeld (x : Subscription) (held : Option (Neighbour × Nat)) (s : State) : State :=
  match held with
  | some (n, t) => voidSelection x (updMsu x (fun m => { m with ring := m.ring.insertIdx t n }) s)
  | none => s

/-- The SYNC, if still in the plan, leaves it with no SYNC_DONE (R151, R157). -/
def dropSync (x : Subscription) (r : HandoverRecord) (s : State) : State :=
  match syncInPlan x r s with
  | some e => dropEntry e s
  | none => s

/-- HANDOVER_CANCEL's effect (R151). -/
def cancelHandover (x : Subscription) (r : HandoverRecord) (s : State) : State :=
  returnContext x (setHandover x none (dropSync x r s))

/-- HANDOVER_CONFIRM's effect (R156). -/
def confirmHandover (x : Subscription) (r : HandoverRecord) (s : State) : State :=
  let level := (s.cxm.get x).level
  let s2 := returnHeld x (r.held.map (fun p => ({ p.1 with level := level }, p.2))) (setResume x none s)
  let s3 := match r.fallbackCell with
    | some f => swapRing x r.tag r.channel r.offset f.cell f.level s2
    | none => s2
  let s5 := resumePatterns x (returnContext x (setHandover x none (setFallback none s3)))
  notify x (.handoverDone r.tag r.channel) s5

/-- The revert of a handover (R157). -/
def revertHandover (x : Subscription) (r : HandoverRecord) (why : FailReason) (s : State) : State :=
  let s3 := flushSub x (dropSync x r (setResume x none s))
  let s4 := match s3.tbu.fallback with
    | some (_, b) => setFallback none (reanchor x b.fnRef b.ltRef s3)
    | none => s3
  let s5 := match r.fallbackCell with
    | some f => setServing x f.cell f.level s4
    | none => s4
  let s6 := rematerialise x .call none (returnHeld x r.held s5)
  let s7 := notify x (.handoverFailed why) s6
  resumePatterns x (returnContext x (setHandover x none s7))

/-- CONFIRM_DEADLINE (R157). -/
def execConfirmDeadline (x : Subscription) (s : State) : Answered :=
  match confirmDue x s with
  | some r => .next (settle (revertHandover x r .deadline s))
  | none => .next s

end Sys2Proof.Machine
end

