-- ==== Sys2Proof/Machine/Requests.lean ====
section
/-! DEFINITION. How a request is taken and answered (R184 to R189), and the teardown of a subscription (R33 to R37,
R120, R123, R158). -/

namespace Sys2Proof.Machine

/-! ### Taking a request (R186, R189) -/

/-- What the owner of a request makes of it. A refusal has no effect and an empty body (R189). `quiet` is a request
that reads state, or changes only what its port holds. `accept` is a request that is taken with its effects, which
the rest of the device then follows up. -/
inductive Reply where
  | refuse (st : Status)
  | quiet (st : Status) (b : Body) (s : State)
  | accept (st : Status) (b : Body) (s : State)

/-- The tag of a request that the port's engine holds in PENDING, while LT runs (R184, R186, log 4). -/
def pendingTag (q : Port) (r : Request) (s : State) : Option (BitVec 8) :=
  match s.engines.get q with
  | .pending tag req => if ltRuns s ∧ req = r then some tag else none
  | _ => none

def setEngine (q : Port) (e : Engine) (s : State) : State := { s with engines := s.engines.set q e }

/-- The engine holds the answer and moves to ANSWERING (R184, R185). -/
def answer (q : Port) (tag : BitVec 8) (st : Status) (b : Body) (s : State) : State :=
  setEngine q (.answering { tag := tag, status := st, body := b }) s

def reply (q : Port) (tag : BitVec 8) (s : State) : Reply → State
  | .refuse st => answer q tag st .empty s
  | .quiet st b t => answer q tag st b t
  | .accept st b t => answer q tag st b (settle t)

/-- A request is taken at its port, if it is there to be taken (log 3, 4). -/
def serve (q : Port) (r : Request) (f : State → Reply) (s : State) : Answered :=
  match pendingTag q r s with
  | some tag => .next (reply q tag s (f s))
  | none => .next s

/-! ### Release of the claim (R55, R120) -/

def releaseClaim (s : State) : State :=
  { s with ceu := { s.ceu with claim := none }, credit := { credit := 0, refill := 0 } }

/-! ### Teardown (R35, R36, R123, R124, R158) -/

/-- Every entry of the subscription leaves, an EXECUTING one cut with OFF, a gap between two windows too; nothing is told
(R35). -/
def tearEntry (e : Entry) (s : State) : State := removeEntry e.handle (cutOff e s)

def tearPlan (x : Subscription) (s : State) : State :=
  forEntries tearEntry (s.plan.filter (fun e => e.owner == x)) s

/-- The claim of a torn-down owner is released and CALL_ENDED goes to the Application Port (R36). -/
def tearClaim (x : Subscription) (s : State) : State :=
  if s.ceu.claim = some x then notifyAppAt x (now s) (.callEnded .teardown) (releaseClaim s) else s

/-- The blocks' items of a torn-down subscription (R35, R91, R123, R124). The epoch is kept (R85). -/
def tearItems (x : Subscription) (s : State) : State :=
  { s with
    patterns := s.patterns.set x Patterns.atReset,
    pgu := s.pgu.set x { Pgu.atReset with epoch := (s.pgu.get x).epoch },
    ceu := { s.ceu with items := s.ceu.items.set x CeuItems.atReset },
    msu := s.msu.set x Msu.atReset,
    selection := s.selection.set x none,
    hou := s.hou.set x Hou.atReset,
    tbu := { s.tbu with record := s.tbu.record.set x none,
                        fallback := s.tbu.fallback.filter (fun f => f.1 != x) },
    rsq := { s.rsq with ended := s.rsq.ended.filter (fun w => w.entry.owner != x) },
    cxm := s.cxm.set x Context.atReset }

/-- Teardown to SEARCHING or to ABSENT; the missed-page count is cleared in ABSENT (R33 to R35). -/
def teardown (x : Subscription) (c : CtxState) (s : State) : State :=
  let t := tearItems x (tearClaim x (tearPlan x s))
  let u := updCtx x (fun k => { k with state := c }) t
  if c = .absent then { u with missed := u.missed.set x 0 } else u

/-- The teardown of DEACTIVATE and of a stack PORT_RESET: none in ABSENT (R34, R37). -/
def shutDown (x : Subscription) (s : State) : State :=
  if (s.cxm.get x).state = .absent then s else teardown x .absent s

end Sys2Proof.Machine
end

