-- ==== Sys2Proof/Machine/Contexts.lean ====
section
/-! DEFINITION. The requests of chapter 2 and the exchange requests and deadline (R20, R23 to R26, R33, R34, R105,
R106). -/

namespace Sys2Proof.Machine

/-! ### Service (R20, R23, R24, R33, R34) -/

def activateReply (x : Subscription) (s : State) : Reply :=
  if (s.cxm.get x).state = .absent then
    .accept .ok .empty (updCtx x (fun c => { c with state := .searching }) s)
  else .refuse .state

/-- ACTIVATE (R23). -/
def execActivate (x : Subscription) (s : State) : Answered := serve x.port .activate (activateReply x) s

def deactivateReply (x : Subscription) (s : State) : Reply := .accept .ok .empty (shutDown x s)

/-- DEACTIVATE (R34). -/
def execDeactivate (x : Subscription) (s : State) : Answered := serve x.port .deactivate (deactivateReply x) s

/-- CAMP's effects: the record present, the state CAMPED on the given cell, PAGE and MEAS active (R13, R24). -/
def campOn (x : Subscription) (b : CampBody) (s : State) : State :=
  let t := updRecord x (some { fnRef := toFN b.fn, ltRef := b.lt, slew := none }) s
  let u := updCtx x (fun c => { c with state := .camped, serving := some { tag := b.tag, channel := b.channel },
                                       level := none }) t
  Machine.activate x .meas (Machine.activate x .page u)

def campReply (x : Subscription) (b : CampBody) (s : State) : Reply :=
  if (s.cxm.get x).state ≠ .searching then .refuse .state
  else if campOk b (now s) then .accept .ok .empty (campOn x b s)
  else .refuse .badValue

/-- CAMP (R13, R24). -/
def execCamp (x : Subscription) (b : CampBody) (s : State) : Answered := serve x.port (.camp b) (campReply x b) s

def loseServiceReply (x : Subscription) (s : State) : Reply :=
  if (s.cxm.get x).state = .absent then .refuse .state else .accept .ok .empty (teardown x .searching s)

/-- LOSE_SERVICE (R33). -/
def execLoseService (x : Subscription) (s : State) : Answered := serve x.port .loseService (loseServiceReply x) s

/-- The answer of READ_CONTEXT for one subscription (R20). -/
def contextBody (x : Subscription) (s : State) : Body :=
  let c := s.cxm.get x
  .context c (s.missed.get x) (if c.state = .handover then phaseOf x s else none)
    ((s.hou.get x).reselect.map (·.fnS)) (s.ceu.claim == some x)

def readContextReply (q : Port) (who : Coded Subscription) (s : State) : Reply :=
  match q.subscription, who with
  | some x, .val y => if y = x then .quiet .ok (contextBody x s) s else .refuse .notOwner
  | some x, _ => .quiet .ok (contextBody x s) s
  | none, .val y => .quiet .ok (contextBody y s) s
  | none, _ => .refuse .badValue

/-- READ_CONTEXT (R20). -/
def execReadContext (q : Port) (who : Coded Subscription) (s : State) : Answered :=
  serve q (.readContext who) (readContextReply q who) s

/-! ### Exchanges (R25, R26, R105, R106) -/

def setTimer (x : Subscription) (t : Option Nat) (s : State) : State := updCeu x (fun i => { i with timer := t }) s

/-- The LT a number of frames from now (R2). -/
def framesAhead (n : Nat) (s : State) : LT := ltAdd (now s) (n * Config.frameTicks)

def enterExchangeReply (x : Subscription) (p : Option Purpose) (timer : Nat) (s : State) : Reply :=
  if (s.cxm.get x).state ≠ .camped ∨ (s.hou.get x).reselect.isSome then .refuse .state
  else match p with
    | some v =>
      if timerOk timer then
        let d := framesAhead timer s
        .accept .ok .empty (setTimer x (some timer)
          (updCtx x (fun c => { c with state := .exchange, purpose := some v, exchangeDeadline := some d }) s))
      else .refuse .badValue
    | none => .refuse .badValue

/-- ENTER_EXCHANGE (R25). -/
def execEnterExchange (x : Subscription) (p : Option Purpose) (timer : Nat) (s : State) : Answered :=
  serve x.port (.enterExchange p timer) (enterExchangeReply x p timer) s

def renewExchangeReply (x : Subscription) (p : Coded Purpose) (timer : Nat) (s : State) : Reply :=
  if (s.cxm.get x).state ≠ .exchange then .refuse .state
  else if codedOk p && timerOk timer then
    let d := framesAhead timer s
    .accept .ok .empty (setTimer x (some timer) (updCtx x (fun c =>
      { c with exchangeDeadline := some d,
               purpose := match p with
                 | .val v => some v
                 | _ => c.purpose }) s))
  else .refuse .badValue

/-- RENEW_EXCHANGE (R105). -/
def execRenewExchange (x : Subscription) (p : Coded Purpose) (timer : Nat) (s : State) : Answered :=
  serve x.port (.renewExchange p timer) (renewExchangeReply x p timer) s

/-- The context and the timer setting after an exchange has ended (R26, R106). -/
def leaveContext (x : Subscription) (s : State) : State :=
  setTimer x none (updCtx x (fun c =>
    { c with state := .camped, purpose := none, exchangeDeadline := none }) s)

def leaveExchangeReply (x : Subscription) (s : State) : Reply :=
  if (s.cxm.get x).state = .exchange then
    .accept .ok (.removed (s.plan.filter (exchEnding x)).length) (leaveContext x (endExchEntries x s))
  else .refuse .state

/-- LEAVE_EXCHANGE (R26, R106). -/
def execLeaveExchange (x : Subscription) (s : State) : Answered :=
  serve x.port .leaveExchange (leaveExchangeReply x) s

/-- The exchange deadline of x, reached in EXCHANGE (R26). -/
def exchangeDue (x : Subscription) (s : State) : Option LT :=
  if ltRuns s ∧ (s.cxm.get x).state = .exchange then
    (s.cxm.get x).exchangeDeadline.filter (fun t => ltReached (now s) t)
  else none

/-- The exchange has run out: its one-shots leave, then EXCHANGE_EXPIRED, stamped with the deadline (R26, R106). -/
def expireExchange (x : Subscription) (d : LT) (s : State) : State :=
  let p := (s.cxm.get x).purpose
  leaveContext x (notifyAt x d (.exchangeExpired p) (endExchEntries x s))

/-- EXCHANGE_DEADLINE (R26, R106). -/
def execExchangeDeadline (x : Subscription) (s : State) : Answered :=
  match exchangeDue x s with
  | some d => .next (settle (expireExchange x d s))
  | none => .next s

end Sys2Proof.Machine
end

