-- ==== Sys2Proof/Machine/Calls.lean ====
section
/-! DEFINITION. The call requests and the lease deadline of chapter 6 (R27, R28, R31, R42, R112, R113, R117 to
R120). -/

namespace Sys2Proof.Machine

/-! ### START_CALL (R112) -/

/-- The claim is taken: the credit becomes credit_max and the refill count 0 (R55). -/
def takeClaim (x : Subscription) (s : State) : State :=
  { s with ceu := { s.ceu with claim := some x }, credit := { credit := s.air.creditMax, refill := 0 } }

/-- The other subscription's EXCH entries are set to priority 2, whatever their state (R42). -/
def lowerExch (y : Subscription) (s : State) : State :=
  { s with plan := s.plan.map (fun e => if e.owner == y && isExch e.kind then { e with priority := 2 } else e) }

/-- The lease a field gives, 0 giving none (R112, R117). -/
def leaseOr (field default : Nat) : Nat := if field = 0 then default else field

/-- START_CALL's effects, in the order of R112. -/
def startCall (x : Subscription) (p : CallPattern) (lease : Nat) (s : State) : State :=
  let l := leaseOr lease Config.defaultLease
  let d := framesAhead l s
  let t := lowerExch x.other (takeClaim x s)
  let u := updCtx x (fun c => { c with state := .call, purpose := none, exchangeDeadline := none,
                                       leaseDeadline := some d }) t
  let v := updCeu x (fun i => { i with timer := none, lease := some l, active := some (clampPattern p),
                                       staged := none }) (deactivate x .page u)
  Machine.activate x .call v

def startCallReply (x : Subscription) (p : CallPattern) (lease : Nat) (s : State) : Reply :=
  if (s.cxm.get x).state ≠ .exchange then .refuse .state
  else if !(callPatternOk p s.air.gTurn && leaseOk lease) then .refuse .badValue
  else if s.ceu.claim = some x.other then .refuse .callClaimed
  else if s.csc.filtered = .critical then .refuse .lowPower
  else .accept (okOr (clampTx p.txLevel != p.txLevel)) .empty (startCall x p lease s)

/-- START_CALL (R27, R112). -/
def execStartCall (x : Subscription) (p : CallPattern) (lease : Nat) (s : State) : Answered :=
  serve x.port (.startCall p lease) (startCallReply x p lease) s

/-! ### MODIFY_CALL and RENEW_HOLD (R113, R117) -/

def modifyCallReply (x : Subscription) (p : CallPattern) (s : State) : Reply :=
  if (s.cxm.get x).state ≠ .call then .refuse .state
  else if callPatternOk p s.air.gTurn then
    .accept (okOr (clampTx p.txLevel != p.txLevel)) .empty
      (updCeu x (fun i => { i with staged := some (clampPattern p) }) s)
  else .refuse .badValue

/-- MODIFY_CALL (R113). -/
def execModifyCall (x : Subscription) (p : CallPattern) (s : State) : Answered :=
  serve x.port (.modifyCall p) (modifyCallReply x p) s

/-- RENEW_HOLD's effects (R117). -/
def renewHold (x : Subscription) (lease : Nat) (s : State) : State :=
  let l := leaseOr lease ((s.ceu.items.get x).lease.getD Config.defaultLease)
  let d := framesAhead l s
  updCtx x (fun c => { c with leaseDeadline := some d }) (updCeu x (fun i => { i with lease := some l }) s)

def renewHoldReply (x : Subscription) (lease : Nat) (s : State) : Reply :=
  if !inCall (s.cxm.get x) then .refuse .state
  else if leaseOk lease then .accept .ok .empty (renewHold x lease s)
  else .refuse .badValue

/-- RENEW_HOLD (R117). -/
def execRenewHold (x : Subscription) (lease : Nat) (s : State) : Answered :=
  serve x.port (.renewHold lease) (renewHoldReply x lease) s

/-! ### The end of a call (R28, R31, R118, R119) -/

/-- The CALL pattern is removed with its active and staged copies, the lease setting and the resume frame (R118,
R119). -/
def removeCall (x : Subscription) (s : State) : State :=
  updCeu x (fun i => { i with lease := none, active := none, staged := none, resume := none })
    (deactivate x .call s)

/-- The context after a call has ended: CAMPED, or a handover with prior state CAMPED (R28, R31). -/
def afterCall (c : Context) : Context :=
  if c.state = .handover then { c with prior := some .camped, leaseDeadline := none }
  else { c with state := .camped, leaseDeadline := none }

/-- The call ends: the claim is released, the pattern removed, `tell` gives the notices, and PAGE becomes active
where the state calls for it (R28, R31, R118, R119). -/
def endCall (x : Subscription) (tell : State → State) (s : State) : State :=
  let t := updCtx x afterCall (tell (removeCall x (releaseClaim s)))
  if pageCalled x t then Machine.activate x .page t else t

def endCallReply (x : Subscription) (s : State) : Reply :=
  if inCall (s.cxm.get x) then
    .accept .ok .empty (endCall x (notifyAppAt x (now s) (.callEnded .endCall)) s)
  else .refuse .state

/-- END_CALL (R28, R31, R118, R119). -/
def execEndCall (x : Subscription) (s : State) : Answered := serve x.port .endCall (endCallReply x) s

/-- LEASE_LOST to the stack port and to the Application Port, stamped with the deadline (R118, section 10-4). -/
def tellLeaseLost (x : Subscription) (d : LT) (s : State) : State :=
  notifyAppAt x d .leaseLost (notifyAt x d .leaseLost s)

/-- LEASE_DEADLINE (R28, R31, R118, R119). -/
def execLeaseDeadline (x : Subscription) (s : State) : Answered :=
  match leaseDue x s with
  | some d => .next (settle (endCall x (tellLeaseLost x d) s))
  | none => .next s

end Sys2Proof.Machine
end

