-- ==== Sys2Proof/Machine/Handover.lean ====
section
/-! DEFINITION. The requests of chapter 8: RESELECT, HANDOVER_ARM, HANDOVER_CANCEL, HANDOVER_CONFIRM,
HANDOVER_FAIL. -/

namespace Sys2Proof.Machine

/-- The timing offset of the ring's record of a target (R148, R160). -/
def targetOffset (x : Subscription) (tag channel : Nat) (s : State) : Option Int :=
  ((s.msu.get x).ring.find? (isCell tag channel)).bind (·.offset)

/-! ### RESELECT (R160) -/

def reselectReply (x : Subscription) (b : ReselectBody) (s : State) : Reply :=
  if (s.cxm.get x).state ≠ .camped ∨ (s.hou.get x).reselect.isSome then .refuse .state
  else if !reselectOk b then .refuse .badValue
  else match s.tbu.record.get x with
    | none => .refuse .state
    | some tb =>
      if !switchDistOk (frameDist tb (toFN b.fnS)) then .refuse .badValue
      else match targetOffset x b.tag b.channel s with
        | none => .refuse .noTiming
        | some o =>
          let r : ReselectRecord :=
            { tag := b.tag, channel := b.channel, offset := o, fnS := toFN b.fnS, fnNew := toFN b.fnNew }
          .accept .ok .empty (updHou x (fun h => { h with reselect := some r }) s)

/-- RESELECT (R29, R160). -/
def execReselect (x : Subscription) (b : ReselectBody) (s : State) : Answered :=
  serve x.port (.reselect b) (reselectReply x b) s

/-! ### HANDOVER_ARM (R148, R149) -/

/-- The SYNC's local start (R149). -/
def syncStart (tb : Timebase) (d : Nat) (offset : Int) : LT :=
  ltAddInt (ltAddInt (ltAdd tb.ltRef (d * Config.frameTicks)) (tb.slew.getD 0)) offset

/-- The SYNC entry as it is offered (R149). -/
def syncEntry (x : Subscription) (b : ArmBody) (start : LT) (s : State) : Entry :=
  { handle := noHandle, owner := x, origin := .sync, kind := .sync, priority := priorityOf .sync x s, frame := none,
    start := start, stop := ltAdd start (b.sync * Config.frameTicks - s.air.gRetune), channel := b.channel,
    txLevel := none, index := none, measureList := none, partner := none, state := .admitted, cut := false }

/-- The context of an armed handover (R30). -/
def armContext (c : Context) : Context :=
  { c with state := .handover, exchangeDeadline := none,
           prior := some (if c.state = .call then .call else .exchange) }

/-- The handover record of an ARM that is taken (R149). -/
def armedRecord (b : ArmBody) (offset : Int) (h : Handle) : HandoverRecord :=
  { phase := .armed, tag := b.tag, channel := b.channel, offset := offset, fnS := toFN b.fnS, fnNew := toFN b.fnNew,
    syncFrames := b.sync, limit := b.limit, sync := h, fallbackCell := none, held := none, confirm := none }

/-- The sixth test of R148, and the effects of an ARM that passes it (R30, R149). -/
def offerSync (x : Subscription) (b : ArmBody) (tb : Timebase) (offset : Int) (s : State) : Reply :=
  let start := syncStart tb (frameDist tb (toFN b.fnS)) offset
  let e := syncEntry x b start s
  match admitEntries false [e] s with
  | .admitted (h :: _) t =>
    .accept .ok (.armed h e.start e.stop) (updCtx x armContext (setHandover x (some (armedRecord b offset h)) t))
  | _ => .refuse .conflict

def armReply (x : Subscription) (b : ArmBody) (s : State) : Reply :=
  let c := s.cxm.get x
  if !(c.state == .exchange || c.state == .call) then .refuse .state
  else if (s.cxm.get x.other).state = .handover then .refuse .state
  else if !armOk b then .refuse .badValue
  else match s.tbu.record.get x with
    | none => .refuse .state
    | some tb =>
      if !switchDistOk (frameDist tb (toFN b.fnS)) then .refuse .badValue
      else match targetOffset x b.tag b.channel s with
        | none => .refuse .noTiming
        | some o => offerSync x b tb o s

/-- HANDOVER_ARM (R30, R148, R149). -/
def execHandoverArm (x : Subscription) (b : ArmBody) (s : State) : Answered :=
  serve x.port (.handoverArm b) (armReply x b) s

/-! ### The end of a handover (R151, R156, R157) -/

/-- The handover record of x in the given phase, while the context is in HANDOVER (R22). -/
def handoverIn (x : Subscription) (ph : HoPhase) (s : State) : Option HandoverRecord :=
  if (s.cxm.get x).state = .handover then (s.hou.get x).record.filter (fun r => r.phase == ph) else none

def handoverCancelReply (x : Subscription) (s : State) : Reply :=
  match handoverIn x .armed s with
  | some r => .accept .ok .empty (cancelHandover x r s)
  | none => .refuse .state

/-- HANDOVER_CANCEL (R151). -/
def execHandoverCancel (x : Subscription) (s : State) : Answered :=
  serve x.port .handoverCancel (handoverCancelReply x) s

def handoverConfirmReply (x : Subscription) (s : State) : Reply :=
  match handoverIn x .switched s with
  | some r => .accept .ok .empty (confirmHandover x r s)
  | none => .refuse .state

/-- HANDOVER_CONFIRM (R156). -/
def execHandoverConfirm (x : Subscription) (s : State) : Answered :=
  serve x.port .handoverConfirm (handoverConfirmReply x) s

def handoverFailReply (x : Subscription) (s : State) : Reply :=
  match handoverIn x .switched s with
  | some r => .accept .ok .empty (revertHandover x r .request s)
  | none => .refuse .state

/-- HANDOVER_FAIL (R157). -/
def execHandoverFail (x : Subscription) (s : State) : Answered := serve x.port .handoverFail (handoverFailReply x) s

end Sys2Proof.Machine
end

