-- ==== Sys2Proof/Machine/Neighbours.lean ====
section
/-! DEFINITION. The requests of chapter 7: SET_MEAS, the ring requests, the banks, ACK_CANDIDATE. -/

namespace Sys2Proof.Machine

/-! ### SET_MEAS (R125) -/

/-- A count above the new N is set to N (R125). -/
def limitCount (n : Nat) (r : Neighbour) : Neighbour := { r with count := min r.count n }

/-- The pattern after the gap configuration has been given (R125). -/
def placeMeas (x : Subscription) (s : State) : State :=
  if (patternOf x .meas s).active then rematerialise x .meas none s
  else if measCalled x s then Machine.activate x .meas s
  else s

/-- SET_MEAS's effects (R125). -/
def setMeas (x : Subscription) (b : MeasBody) (s : State) : State :=
  let t := updMsu x (fun m =>
    { m with config := some { period := b.period, fp := b.fp, length := b.length },
             settings := newSettings b m.settings }) s
  bankSwitch x (updMsu x (fun m => { m with ring := m.ring.map (limitCount m.settings.n) }) (placeMeas x t))

def setMeasReply (x : Subscription) (b : MeasBody) (s : State) : Reply :=
  let c := s.cxm.get x
  if !(c.state == .searching || onCell c) then .refuse .state
  else if measOk b then .accept (okOr (measClamped b)) .empty (setMeas x b s)
  else .refuse .badValue

/-- SET_MEAS (R125). -/
def execSetMeas (x : Subscription) (b : MeasBody) (s : State) : Answered := serve x.port (.setMeas b) (setMeasReply x b) s

/-! ### The ring (R128 to R132) -/

/-- The serving cell has this tag and channel. -/
def isServing (x : Subscription) (tag channel : Nat) (s : State) : Bool :=
  (s.cxm.get x).serving == some { tag := tag, channel := channel }

/-- A record as it is placed for the first time (R129, R130). -/
def freshNeighbour (r : NeighbourSpec) : Neighbour :=
  { tag := r.tag, channel := r.channel, cls := r.cls, offset := r.offset, level := none, count := 0,
    above := false, reported := false, stale := true }

/-- A listed record, keeping what the old ring held of the same cell (R129). -/
def listedNeighbour (ring : List Neighbour) (r : NeighbourSpec) : Neighbour :=
  match ring.find? (isCell r.tag r.channel) with
  | some o => { freshNeighbour r with level := o.level, count := o.count, above := o.above, reported := o.reported }
  | none => freshNeighbour r

def setNeighboursReply (x : Subscription) (l : List NeighbourSpec) (s : State) : Reply :=
  if !onCell (s.cxm.get x) then .refuse .state
  else if !l.all neighbourOk then .refuse .badValue
  else if l.any (fun r => isServing x r.tag r.channel s) then .refuse .serving
  else if hasDuplicate l then .refuse .duplicate
  else .accept .ok .empty (voidSelection x
    (updMsu x (fun m => { m with ring := l.map (listedNeighbour m.ring), pointer := 0, round := 0 }) s))

/-- SET_NEIGHBOURS (R129). -/
def execSetNeighbours (x : Subscription) (l : List NeighbourSpec) (s : State) : Answered :=
  serve x.port (.setNeighbours l) (setNeighboursReply x l) s

def addNeighbourReply (x : Subscription) (r : NeighbourSpec) (s : State) : Reply :=
  let ring := (s.msu.get x).ring
  if !onCell (s.cxm.get x) then .refuse .state
  else if !neighbourOk r then .refuse .badValue
  else if isServing x r.tag r.channel s then .refuse .serving
  else if ring.any (isCell r.tag r.channel) then .refuse .duplicate
  else if Config.ringCapacity ≤ ring.length then .refuse .ringFull
  else .accept .ok .empty (updMsu x (fun m => { m with ring := m.ring ++ [freshNeighbour r] }) s)

/-- ADD_NEIGHBOUR (R130). -/
def execAddNeighbour (x : Subscription) (r : NeighbourSpec) (s : State) : Answered :=
  serve x.port (.addNeighbour r) (addNeighbourReply x r) s

/-- The pointer and the round after the removal of position j from a ring that is left with `len` records
(R131). -/
def pointerAfterRemoval (len j p rnd : Nat) : Nat × Nat :=
  if len = 0 then (0, rnd)
  else if j < p then (p - 1, rnd)
  else if p < j ∨ p < len then (p, rnd)
  else (0, (rnd + 1) % 4)

/-- The record at position j is deleted (R131). -/
def removeAt (j : Nat) (m : Msu) : Msu :=
  let ring := m.ring.eraseIdx j
  let p := pointerAfterRemoval ring.length j m.pointer m.round
  { m with ring := ring, pointer := p.1, round := p.2 }

def removeNeighbourReply (x : Subscription) (tag channel : Nat) (s : State) : Reply :=
  if !onCell (s.cxm.get x) then .refuse .state
  else if !(tagOk tag && channelOk channel) then .refuse .badValue
  else match positionOf tag channel (s.msu.get x).ring with
    | some j => .accept .ok .empty (voidSelection x (updMsu x (removeAt j) s))
    | none => .refuse .badValue

/-- REMOVE_NEIGHBOUR (R131). -/
def execRemoveNeighbour (x : Subscription) (tag channel : Nat) (s : State) : Answered :=
  serve x.port (.removeNeighbour tag channel) (removeNeighbourReply x tag channel) s

def setClassAt (tag channel cls : Nat) (n : Neighbour) : Neighbour :=
  if isCell tag channel n then { n with cls := cls } else n

def setClassReply (x : Subscription) (tag channel cls : Nat) (s : State) : Reply :=
  if !onCell (s.cxm.get x) then .refuse .state
  else if !(tagOk tag && channelOk channel && decide (cls ≤ 3)) then .refuse .badValue
  else if (s.msu.get x).ring.any (isCell tag channel) then
    .accept .ok .empty (updMsu x (fun m => { m with ring := m.ring.map (setClassAt tag channel cls) }) s)
  else .refuse .badValue

/-- SET_CLASS (R132). -/
def execSetClass (x : Subscription) (tag channel cls : Nat) (s : State) : Answered :=
  serve x.port (.setClass tag channel cls) (setClassReply x tag channel cls) s

/-! ### Banks (R143, R144) -/

def bankBody (i : Nat) (b : Bank) : Body := .bank i b.records b.overflow (b.records.any (·.candidate))

def readBankReply (x : Subscription) (s : State) : Reply :=
  if (s.cxm.get x).state = .absent then .refuse .state
  else match readyBank (s.msu.get x) with
    | some i => .quiet .ok (bankBody i (bankOf (s.msu.get x) i)) s
    | none => .refuse .bankNotReady

/-- READ_BANK (R143). -/
def execReadBank (x : Subscription) (s : State) : Answered := serve x.port .readBank (readBankReply x) s

def releaseBankReply (x : Subscription) (s : State) : Reply :=
  if (s.cxm.get x).state = .absent then .refuse .state
  else match readyBank (s.msu.get x) with
    | some i => .accept .ok .empty (bankSwitch x (updMsu x (setBank i (Bank.cleared .empty)) s))
    | none => .refuse .bankNotReady

/-- RELEASE_BANK (R144). -/
def execReleaseBank (x : Subscription) (s : State) : Answered := serve x.port .releaseBank (releaseBankReply x) s

/-! ### ACK_CANDIDATE (R140, R154) -/

/-- Whether an acknowledgement names a record: by tag, and by channel where one is given. -/
def isNamed (tag : Nat) (channel : Option Nat) (n : Neighbour) : Bool :=
  n.tag == tag && (match channel with
    | some c => n.channel == c
    | none => true)

def acknowledge (tag : Nat) (channel : Option Nat) (n : Neighbour) : Neighbour :=
  if isNamed tag channel n then { n with reported := false, count := 0, above := false } else n

/-- The held target record of x, reached as a record of the ring would be (R154). -/
def heldRecord (x : Subscription) (s : State) : Option Neighbour :=
  ((s.hou.get x).record.bind (·.held)).map (·.1)

def ackHeld (tag : Nat) (channel : Option Nat) (r : HandoverRecord) : HandoverRecord :=
  { r with held := r.held.map (fun p => (acknowledge tag channel p.1, p.2)) }

def ackRecords (x : Subscription) (tag : Nat) (channel : Option Nat) (s : State) : State :=
  updHou x (fun h => { h with record := h.record.map (ackHeld tag channel) })
    (updMsu x (fun m => { m with ring := m.ring.map (acknowledge tag channel) }) s)

def channelGivenOk : Option Nat → Bool
  | some c => channelOk c
  | none => true

def ackCandidateReply (x : Subscription) (tag : Nat) (channel : Option Nat) (s : State) : Reply :=
  if !(onCell (s.cxm.get x) || (s.cxm.get x).state == .handover) then .refuse .state
  else if !(tagOk tag && channelGivenOk channel) then .refuse .badValue
  else if (s.msu.get x).ring.any (isNamed tag channel) || (heldRecord x s).any (isNamed tag channel) then
    .accept .ok .empty (ackRecords x tag channel s)
  else .refuse .badValue

/-- ACK_CANDIDATE (R140, R154). -/
def execAckCandidate (x : Subscription) (tag : Nat) (channel : Option Nat) (s : State) : Answered :=
  serve x.port (.ackCandidate tag channel) (ackCandidateReply x tag channel) s

end Sys2Proof.Machine
end

