-- ==== Sys2Proof/Machine/Paging.lean ====
section
/-! DEFINITION. The requests of chapter 5: STAGE_PAGING and PAGE_RESULT. -/

namespace Sys2Proof.Machine

/-- STAGE_PAGING's effects: staged, and active at once where PAGE is called for and nothing is active (R87). -/
def stagePaging (x : Subscription) (c : PagingConfig) (s : State) : State :=
  let t := updPgu x (fun p => { p with staged := some c }) s
  if pageCalled x t && (t.pgu.get x).active.isNone then Machine.activate x .page t else t

def stagePagingReply (x : Subscription) (c : PagingConfig) (s : State) : Reply :=
  if (s.cxm.get x).state = .absent then .refuse .state
  else if pagingOk c then .accept .ok .empty (stagePaging x c s)
  else .refuse .badValue

/-- STAGE_PAGING (R86, R87). -/
def execStagePaging (x : Subscription) (c : PagingConfig) (s : State) : Answered :=
  serve x.port (.stagePaging c) (stagePagingReply x c) s

/-- INCOMING to the Application Port for a page result of CALL or TEXT (R98, R99). -/
def tellIncoming (x : Subscription) (r : PageOutcome) (w : ResultWindow) (s : State) : State :=
  match r with
  | .none => s
  | .call => notifyAppAt x (now s) (.incoming .call w.readFrame w.level) s
  | .text => notifyAppAt x (now s) (.incoming .text w.readFrame w.level) s

def pageResultReply (x : Subscription) (r : Option PageOutcome) (s : State) : Reply :=
  if !(onCell (s.cxm.get x) || (s.cxm.get x).state == .handover) then .refuse .state
  else match r with
    | none => .refuse .badValue
    | some v =>
      match (s.pgu.get x).window with
      | none => .refuse .state
      | some w => .accept .ok .empty (tellIncoming x v w (updPgu x (fun p => { p with window := none }) s))

/-- PAGE_RESULT (R98, R99). -/
def execPageResult (x : Subscription) (r : Option PageOutcome) (s : State) : Answered :=
  serve x.port (.pageResult r) (pageResultReply x r) s

end Sys2Proof.Machine
end

