-- ==== Sys2Proof/Machine/PlanRequests.lean ====
section
/-! DEFINITION. The requests of chapter 3: RESERVE, CANCEL, READ_PLAN. -/

namespace Sys2Proof.Machine

/-! ### RESERVE (R50) -/

/-- Whether the context allows a one-shot of this kind (R22). -/
def kindAllowed (k : Kind) (c : Context) : Bool :=
  match k with
  | .search => c.state == .searching || onCell c
  | _ => inExchange c

/-- The TX level a one-shot carries: EXCH_TX only, clamped (R38, R45, section 10-7). -/
def reserveTx (k : Kind) (b : ReserveBody) : Option Int :=
  if k = .exchTx then some (clampTx b.txLevel.toInt) else none

def reserveClamped (k : Kind) (b : ReserveBody) : Bool := k == .exchTx && clampTx b.txLevel.toInt != b.txLevel.toInt

/-- The newcomer of a RESERVE (R45, R50). -/
def oneShot (x : Subscription) (k : Kind) (b : ReserveBody) (start : LT) (frame : Option FrameTime) (s : State) :
    Entry :=
  { handle := noHandle, owner := x, origin := .oneShot, kind := k, priority := priorityOf k x s, frame := frame,
    start := start, stop := ltAdd start b.length.toNat, channel := b.channel.toNat, txLevel := reserveTx k b,
    index := none, measureList := none, partner := none, state := .admitted, cut := false }

/-- The status of a one-shot refused at admission (R40, R45, R46). -/
def refusalStatus : Reason → Status
  | .tableFull => .tableFull
  | .late => .late
  | _ => .conflict

/-- The eighth test of R50: admission. -/
def offerOneShot (x : Subscription) (k : Kind) (b : ReserveBody) (start : LT) (frame : Option FrameTime) (s : State) :
    Reply :=
  match admitEntries false [oneShot x k b start frame s] s with
  | .admitted (h :: _) t => .accept (okOr (reserveClamped k b)) (.reserved h start) t
  | .admitted [] _ => .refuse .tableFull
  | .refused _ r => .refuse (refusalStatus r)
  | .yielded _ => .refuse .conflict

/-- RESERVE's tests, in the order of R50. -/
def reserveReply (x : Subscription) (b : ReserveBody) (s : State) : Reply :=
  match reserveKind b.kind with
  | none => .refuse .badValue
  | some k =>
    if !kindAllowed k (s.cxm.get x) then .refuse .state
    else if k = .search ∧ s.csc.thrift = true then .refuse .thrift
    else if !reserveOk b then .refuse .badValue
    else match startTest b (s.tbu.record.get x) (now s) with
      | .refuse st => .refuse st
      | .at start frame =>
        if Config.oneShotQuota ≤ oneShotCount x s then .refuse .quota
        else if Config.planCapacity ≤ s.plan.length then .refuse .tableFull
        else offerOneShot x k b start frame s

/-- RESERVE (R8, R50). -/
def execReserve (x : Subscription) (b : ReserveBody) (s : State) : Answered :=
  serve x.port (.reserve b) (reserveReply x b) s

/-! ### CANCEL (R51) -/

/-- The plan entry a handle given as two bytes names. -/
def entryNamed (slot gen : BitVec 8) (s : State) : Option Entry :=
  s.plan.find? (fun e => e.handle.slot.val == slot.toNat && e.handle.gen == gen)

/-- A one-shot is cancelled: one not yet EXECUTING leaves with no notice (R51, R77). -/
def cancelEntry (e : Entry) (s : State) : State :=
  if e.state = .executing then cancelExecuting e s else removeEntry e.handle s

def cancelReply (x : Subscription) (slot gen : BitVec 8) (s : State) : Reply :=
  if 48 ≤ slot.toNat then .refuse .badValue
  else match entryNamed slot gen s with
    | none => .refuse .staleHandle
    | some e =>
      if e.owner ≠ x ∨ e.origin ≠ .oneShot then .refuse .notOwner else .accept .ok .empty (cancelEntry e s)

/-- CANCEL (R51). -/
def execCancel (x : Subscription) (slot gen : BitVec 8) (s : State) : Answered :=
  serve x.port (.cancel slot gen) (cancelReply x slot gen) s

/-! ### READ_PLAN (R66) -/

def planView (e : Entry) : PlanView :=
  { handle := e.handle, owner := e.owner, origin := e.origin, kind := e.kind, priority := e.priority,
    state := e.state, start := e.start, stop := e.stop, channel := e.channel, dir := e.dir }

def planBody (start : Nat) (s : State) : Body :=
  .plan s.plan.length (((s.plan.drop start).take 4).map planView) s.credit s.air s.guards

def readPlanReply (start : Nat) (s : State) : Reply :=
  if 47 < start then .refuse .badValue else .quiet .ok (planBody start s) s

/-- READ_PLAN (R66). -/
def execReadPlan (start : Nat) (s : State) : Answered := serve .P (.readPlan start) (readPlanReply start) s

end Sys2Proof.Machine
end

