-- ==== Sys2Proof/Machine/Policy.lean ====
section
/-! DEFINITION. The power and policy requests of chapter 9: READ_POWER, CLEAR_BATTERY, START_CAL, SET_POLICY, the
clock votes; and the event of calibration due (R174 to R176, R178, R179, R181, R183). -/

namespace Sys2Proof.Machine

/-! ### Reading and clearing (R181, R183) -/

def calPhase : Calibration → CalPhase
  | .idle => .idle
  | .waiting => .waiting
  | .running _ _ => .running

/-- The groups of R183. -/
def powerBody (s : State) : Body :=
  let c := s.csc
  .power { state := s.power.state, entryPending := s.power.entry.isSome, wakeTarget := s.power.wakeTarget,
           last := s.power.last, k := c.k, c := c.c, f := c.f, valid := c.valid, suspect := c.suspect,
           cal := calPhase c.cal, rescheduled := c.rescheduled, calDue := c.calDue, lastCalEnd := c.lastCalEnd,
           live := c.live, filtered := c.filtered, lowSeen := c.lowSeen, criticalSeen := c.criticalSeen,
           thrift := c.thrift, link := s.rsq.link, indicator := s.rsq.indicator, faults := s.rsq.faults,
           votes := s.votes, wake := s.pins.wake, slumberPermitted := c.slumberPermitted,
           thriftFlag := c.thriftFlag, interval := c.interval, settle := c.settle }

def readPowerReply (s : State) : Reply := .quiet .ok (powerBody s) s

/-- READ_POWER (R183). -/
def execReadPower (s : State) : Answered := serve .P .readPower readPowerReply s

def clearBatteryReply (s : State) : Reply :=
  .quiet .ok (.battery s.csc.lowSeen s.csc.criticalSeen)
    (updCsc (fun c => { c with lowSeen := false, criticalSeen := false }) s)

/-- CLEAR_BATTERY (R181). -/
def execClearBattery (s : State) : Answered := serve .P .clearBattery clearBatteryReply s

/-! ### Calibration (R176, R178, R179) -/

/-- START_CAL's effect (R179). -/
def startCal (c : Csc) : Csc := if c.cal = .idle then { c with cal := .waiting, calDue := none } else c

def startCalReply (s : State) : Reply := .accept .ok .empty (updCsc startCal s)

/-- START_CAL (R179). -/
def execStartCal (s : State) : Answered := serve .P .startCal startCalReply s

/-- Calibration due is reached: the calibration waits and the due becomes none (R176). -/
def calDueReached (c : Csc) : Csc :=
  { c with calDue := none, cal := if c.cal = .idle then .waiting else c.cal }

def calDueNow (s : State) : Bool := ltRuns s && reachedBy (now s) s.csc.calDue

/-- CAL_DUE (R176). -/
def execCalDue (s : State) : Answered :=
  if calDueNow s then .next (settle (updCsc calDueReached s)) else .next s

/-- A change of c restarts the calibration (R178); the same c is no change (R175). -/
def changeC (given : Option Nat) (c : Csc) : Csc :=
  match given with
  | some v =>
    if v = c.c then c
    else { c with c := v, valid := false, suspect := false, f := 0, rescheduled := false, cal := .waiting,
                  calDue := none }
  | none => c

/-- A new interval moves a registered calibration due; one that is already reached is signalled at once (R175). -/
def changeInterval (given : Option Nat) (nw : LT) (c : Csc) : Csc :=
  match given with
  | some v =>
    let i := clampNat 1 600 v
    match c.calDue, c.lastCalEnd with
    | some _, some e =>
      let d := ltAdd e (i * Config.second)
      if ltReached nw d then calDueReached { c with interval := i } else { c with interval := i, calDue := some d }
    | _, _ => { c with interval := i }
  | none => c

/-! ### SET_POLICY (R175) -/

/-- The CSC's own fields but for c and the interval. -/
def policyFlags (b : PolicyBody) (c : Csc) : Csc :=
  { c with slumberPermitted := codedOr b.slumber c.slumberPermitted, thriftFlag := codedOr b.thrift c.thriftFlag,
           settle := givenOr 1 255 b.settle c.settle }

def policyCsc (b : PolicyBody) (nw : LT) (c : Csc) : Csc := changeInterval b.interval nw (changeC b.c (policyFlags b c))

def policyAir (b : PolicyBody) (a : AirSettings) : AirSettings :=
  { creditMax := givenOr 0 8 b.creditMax a.creditMax, refillFrames := givenOr 32 1024 b.refillFrames a.refillFrames,
    gRetune := givenOr 0 Config.maxGuard b.gRetune a.gRetune, gTurn := givenOr 0 Config.maxGuard b.gTurn a.gTurn }

/-- SET_POLICY's effects: each value to its holder, a credit above the new credit_max lowered to it, the guard test,
and the thrift test (R44, R55, R175, R182). -/
def setPolicy (b : PolicyBody) (s : State) : State :=
  let a := policyAir b s.air
  let t : State :=
    { s with air := a, credit := { s.credit with credit := min s.credit.credit a.creditMax },
             tbu := { s.tbu with prefAnchor := codedOr b.anchor s.tbu.prefAnchor },
             csc := policyCsc b (now s) s.csc }
  thriftTest (guardTest t)

def setPolicyReply (b : PolicyBody) (s : State) : Reply :=
  if policyOk b then .accept (okOr (policyClamped b)) .empty (setPolicy b s) else .refuse .badValue

/-- SET_POLICY (R175). -/
def execSetPolicy (b : PolicyBody) (s : State) : Answered := serve .P (.setPolicy b) (setPolicyReply b) s

/-! ### Clock votes (R174) -/

def putVote (q : Port) (v : Bool) (s : State) : State := { s with votes := s.votes.set q v }

def setVoteReply (q : Port) (s : State) : Reply := .quiet .ok .empty (putVote q true s)

/-- SET_VOTE (R174). -/
def execSetVote (q : Port) (s : State) : Answered := serve q .setVote (setVoteReply q) s

def clearVoteReply (q : Port) (s : State) : Reply := .quiet .ok .empty (putVote q false s)

/-- CLEAR_VOTE (R174). -/
def execClearVote (q : Port) (s : State) : Answered := serve q .clearVote (clearVoteReply q) s

end Sys2Proof.Machine
end

