-- ==== Sys2Proof/Machine/Catalogue.lean ====
section
/-! DEFINITION. The request catalogue: which row a port's request stands for, and the body lengths each kind accepts
(section 10-3, R185). -/

namespace Sys2Proof.Machine

/-- The row a port's request stands for, once the port's engine holds it; none where the kind is not in that port's
catalogue (section 10-3). -/
def rowOf (q : Port) (r : Request) : Option Instr :=
  match r, q.subscription with
  | .activate, some x => some (.activate x)
  | .deactivate, some x => some (.deactivate x)
  | .camp b, some x => some (.camp x b)
  | .reselect b, some x => some (.reselect x b)
  | .loseService, some x => some (.loseService x)
  | .adjustTiming d, some x => some (.adjustTiming x d)
  | .trim w, some x => some (.trim x w)
  | .readTime, _ => some (.readTime q)
  | .readContext who, _ => some (.readContext q who)
  | .stagePaging c, some x => some (.stagePaging x c)
  | .pageResult r, some x => some (.pageResult x r)
  | .reserve b, some x => some (.reserve x b)
  | .cancel i g, some x => some (.cancel x i g)
  | .enterExchange p t, some x => some (.enterExchange x p t)
  | .renewExchange p t, some x => some (.renewExchange x p t)
  | .leaveExchange, some x => some (.leaveExchange x)
  | .startCall p l, some x => some (.startCall x p l)
  | .modifyCall p, some x => some (.modifyCall x p)
  | .renewHold l, some x => some (.renewHold x l)
  | .endCall, some x => some (.endCall x)
  | .setMeas b, some x => some (.setMeas x b)
  | .setNeighbours l, some x => some (.setNeighbours x l)
  | .addNeighbour r, some x => some (.addNeighbour x r)
  | .removeNeighbour t c, some x => some (.removeNeighbour x t c)
  | .setClass t c k, some x => some (.setClass x t c k)
  | .readBank, some x => some (.readBank x)
  | .releaseBank, some x => some (.releaseBank x)
  | .ackCandidate t c, some x => some (.ackCandidate x t c)
  | .handoverArm b, some x => some (.handoverArm x b)
  | .handoverCancel, some x => some (.handoverCancel x)
  | .handoverConfirm, some x => some (.handoverConfirm x)
  | .handoverFail, some x => some (.handoverFail x)
  | .readPlan n, none => some (.readPlan n)
  | .readPower, none => some .readPower
  | .clearBattery, none => some .clearBattery
  | .startCal, none => some .startCal
  | .setPolicy b, none => some (.setPolicy b)
  | .setVote, _ => some (.setVote q)
  | .clearVote, _ => some (.clearVote q)
  | .fetchNotices, _ => some (.fetchNotices q)
  | .portReset, some x => some (.portReset x)
  | .portReset, none => some .appPortReset
  | _, _ => none


/-- The request a row takes, with the port it comes from; none for the rows that are events. -/
def requestOf (i : Instr) : Option (Port × Request) :=
  match i with
  | .activate x => some (x.port, .activate)
  | .deactivate x => some (x.port, .deactivate)
  | .camp x b => some (x.port, .camp b)
  | .reselect x b => some (x.port, .reselect b)
  | .loseService x => some (x.port, .loseService)
  | .adjustTiming x d => some (x.port, .adjustTiming d)
  | .trim x w => some (x.port, .trim w)
  | .readTime q => some (q, .readTime)
  | .readContext q who => some (q, .readContext who)
  | .stagePaging x c => some (x.port, .stagePaging c)
  | .pageResult x r => some (x.port, .pageResult r)
  | .reserve x b => some (x.port, .reserve b)
  | .cancel x i g => some (x.port, .cancel i g)
  | .enterExchange x p t => some (x.port, .enterExchange p t)
  | .renewExchange x p t => some (x.port, .renewExchange p t)
  | .leaveExchange x => some (x.port, .leaveExchange)
  | .startCall x p l => some (x.port, .startCall p l)
  | .modifyCall x p => some (x.port, .modifyCall p)
  | .renewHold x l => some (x.port, .renewHold l)
  | .endCall x => some (x.port, .endCall)
  | .setMeas x b => some (x.port, .setMeas b)
  | .setNeighbours x l => some (x.port, .setNeighbours l)
  | .addNeighbour x r => some (x.port, .addNeighbour r)
  | .removeNeighbour x t c => some (x.port, .removeNeighbour t c)
  | .setClass x t c k => some (x.port, .setClass t c k)
  | .readBank x => some (x.port, .readBank)
  | .releaseBank x => some (x.port, .releaseBank)
  | .ackCandidate x t c => some (x.port, .ackCandidate t c)
  | .handoverArm x b => some (x.port, .handoverArm b)
  | .handoverCancel x => some (x.port, .handoverCancel)
  | .handoverConfirm x => some (x.port, .handoverConfirm)
  | .handoverFail x => some (x.port, .handoverFail)
  | .readPlan n => some (.P, .readPlan n)
  | .readPower => some (.P, .readPower)
  | .clearBattery => some (.P, .clearBattery)
  | .startCal => some (.P, .startCal)
  | .setPolicy b => some (.P, .setPolicy b)
  | .setVote q => some (q, .setVote)
  | .clearVote q => some (q, .clearVote)
  | .fetchNotices q => some (q, .fetchNotices)
  | .portReset x => some (x.port, .portReset)
  | .appPortReset => some (.P, .portReset)
  | .transactionStart _ => none
  | .requestFrameComplete _ _ _ _ => none
  | .transactionEnd _ => none
  | .wakeAsserted _ _ => none
  | .resetNAsserted => none
  | .bringUp => none
  | .firstRefTick => none
  | .frameStart _ => none
  | .fallbackFrameStart => none
  | .exchangeDeadline _ => none
  | .leaseDeadline _ => none
  | .confirmDeadline _ => none
  | .prepareEntry => none
  | .entryStart => none
  | .entryEnd => none
  | .gapWindowTune => none
  | .gapWindowOn => none
  | .gapWindowEnd => none
  | .lostOccurrenceEnd _ _ => none
  | .probeTime => none
  | .calDue => none
  | .wakeTarget => none
  | .activityNeedReached => none
  | .rclAck _ => none
  | .readReportAck _ _ => none
  | .trimAck => none
  | .probeAck => none
  | .linkFault => none
  | .slumberEntry => none
  | .stopEdge => none
  | .enableCycle => none
  | .earlyWake => none
  | .slumberEnd => none
  | .calStart => none
  | .calEnd => none
  | .batterySample _ _ => none

/-- The body length of a request with this content (section 10-3). READ_CONTEXT has a byte where it names a
subscription, or anything else; ACK_CANDIDATE has four bytes where it gives a channel. -/
def bodyLength (r : Request) : Nat :=
  match r with
  | .activate => 0
  | .deactivate => 0
  | .camp _ => 12
  | .reselect _ => 8
  | .loseService => 0
  | .adjustTiming _ => 4
  | .trim _ => 2
  | .readTime => 0
  | .readContext .absent => 0
  | .readContext _ => 1
  | .stagePaging _ => 19
  | .pageResult _ => 1
  | .reserve _ => 14
  | .cancel _ _ => 2
  | .enterExchange _ _ => 3
  | .renewExchange _ _ => 3
  | .leaveExchange => 0
  | .startCall _ _ => 16
  | .modifyCall _ => 14
  | .renewHold _ => 2
  | .endCall => 0
  | .setMeas _ => 16
  | .setNeighbours l => 6 * l.length
  | .addNeighbour _ => 6
  | .removeNeighbour _ _ => 4
  | .setClass _ _ _ => 5
  | .readBank => 0
  | .releaseBank => 0
  | .ackCandidate _ none => 2
  | .ackCandidate _ (some _) => 4
  | .handoverArm _ => 10
  | .handoverCancel => 0
  | .handoverConfirm => 0
  | .handoverFail => 0
  | .readPlan _ => 1
  | .readPower => 0
  | .clearBattery => 0
  | .startCal => 0
  | .setPolicy _ => 16
  | .setVote => 0
  | .clearVote => 0
  | .fetchNotices => 0
  | .portReset => 0

/-- The Application Port's READ_CONTEXT has a body of one byte (section 10-3). -/
def lengthAccepted (q : Port) (r : Request) : Bool :=
  match q, r with
  | .P, .readContext .absent => false
  | _, _ => true

/-- The three tests of R185 on a whole frame: the length is at most 96, the kind is in the port's catalogue, and the
length is one the catalogue gives for it. The request of a frame that passes. -/
def frameRequest (q : Port) (len : Nat) (req : Option Request) : Option Request :=
  match req with
  | some r => if len ≤ 96 ∧ (rowOf q r).isSome ∧ len = bodyLength r ∧ lengthAccepted q r = true then some r else none
  | none => none

end Sys2Proof.Machine
end

