-- ==== Sys2Proof/Machine/Ports.lean ====
section
/-! DEFINITION. The ports: transactions and request frames, FETCH_NOTICES, the port resets, the WAKE line, RESET_N and
bring-up (chapter 10, section 11-1). -/

namespace Sys2Proof.Machine

/-! ### Early wake (R172, R173) -/

/-- An early-wake event in SLUMBER waits for the next sleep-clock edge; the first one stands. In WAKING it brings no
change (R172). -/
def wakeEvent (c : WakeCause) (s : State) : State :=
  if s.power.state = .slumber ∧ s.power.early = none then updPower (fun p => { p with early := some c }) s else s

/-! ### Transactions (R184, R185, R188) -/

def setCs (q : Port) (low : Bool) (s : State) : State :=
  { s with pins := { s.pins with csLow := s.pins.csLow.set q low } }

/-- TRANSACTION_START: the falling edge of CS_N. While RESET_N is held the engine ignores it (R184, R187, R197). -/
def execTransactionStart (q : Port) (s : State) : Answered :=
  if s.pins.csLow.get q then .next s
  else if s.phase = .held then .next (setCs q true s)
  else .next (wakeEvent .transaction (setEngine q .receiving (setCs q true s)))

/-- REQUEST_FRAME_COMPLETE: a frame that fails R185 is answered BAD_REQUEST by the PIF; one that passes waits in
PENDING for its owner (R184, R185, log 15). -/
def execRequestFrameComplete (q : Port) (tag len : BitVec 8) (req : Option Request) (s : State) : Answered :=
  if s.engines.get q = .receiving then
    match frameRequest q len.toNat req with
    | some r => .next (setEngine q (.pending tag r) s)
    | none => .next (answer q tag .badRequest .empty s)
  else .next s

/-- TRANSACTION_END: the rising edge of CS_N. The engine returns to IDLE from any state: a frame not complete is
discarded, a request not taken is withdrawn, an answer is dropped (R184, R188). -/
def execTransactionEnd (q : Port) (s : State) : Answered :=
  if s.pins.csLow.get q then .next (setEngine q .idle (setCs q false s)) else .next s

/-- WAKE_ASSERTED: the WAKE line takes a level (R173, R194, log 6). -/
def execWakeAsserted (q : Port) (level : Bool) (s : State) : Answered :=
  let t := { s with pins := { s.pins with wake := s.pins.wake.set q level } }
  if level && !s.pins.wake.get q then .next (wakeEvent .wake t) else .next t

/-! ### FETCH_NOTICES (R192) -/

/-- The queue after a fetch: the flag is cleared when the fetch leaves it empty (R192). -/
def NoticeQueue.fetched (n : NoticeQueue) : NoticeQueue :=
  let rest := n.items.drop Config.fetchLimit
  { items := rest, overflow := n.overflow && !rest.isEmpty }

def fetchReply (q : Port) (s : State) : Reply :=
  let n := s.queues.get q
  .quiet .ok (.notices (n.items.take Config.fetchLimit) n.overflow (n.items.drop Config.fetchLimit).length)
    { s with queues := s.queues.set q n.fetched }

/-- FETCH_NOTICES (R192). -/
def execFetchNotices (q : Port) (s : State) : Answered := serve q .fetchNotices (fetchReply q) s

/-! ### PORT_RESET (R37, R195, R196) -/

/-- The port's queue is emptied with its overflow flag, and its vote is cleared (R195, R196). -/
def clearPort (q : Port) (s : State) : State :=
  { s with queues := s.queues.set q NoticeQueue.cleared, votes := s.votes.set q false }

def portResetReply (x : Subscription) (s : State) : Reply := .accept .ok .empty (clearPort x.port (shutDown x s))

/-- PORT_RESET of a stack port (R37, R195). -/
def execPortReset (x : Subscription) (s : State) : Answered := serve x.port .portReset (portResetReply x) s

def appPortResetReply (s : State) : Reply := .quiet .ok .empty (clearPort .P s)

/-- PORT_RESET of the Application Port (R196). -/
def execAppPortReset (s : State) : Answered := serve .P .portReset appPortResetReply s

/-! ### Reset and bring-up (R197 to R199) -/

/-- RESET_N_ASSERTED: every block at its after-reset values, held (R199). The input levels are not the device's to
change; the waiting commands and the free counter are the model's (log 6). -/
def execResetNAsserted (s : State) : Answered :=
  .next { State.reset with pins := s.pins, free := s.free, pending := s.pending }

/-- BRING_UP: RESET_N rises, or power-on reset completes; LT waits for the first tick (R198). -/
def execBringUp (s : State) : Answered :=
  if s.phase = .held then .next { s with phase := .starting } else .next s

end Sys2Proof.Machine
end

