-- ==== Sys2Proof/Machine/Sleep.lean ====
section
/-! DEFINITION. The sleep-clock side: slumber entry and stop edge, the edges of a slumber, early wake, the restoring
of LT with its catch-up, the calibrator, the battery monitor, the first tick (R3, R165 to R173, R176, R177, R180 to
R182, R198). -/

namespace Sys2Proof.Machine

/-! ### Battery (R180, R181) -/

/-- The live state of a sample (R180). -/
def liveState (low critical : Bool) : Battery := if critical then .critical else if low then .low else .normal

/-- The filter after a sample: candidate, count and filtered state (R180). -/
def sampleFilter (live : Battery) (c : Csc) : Csc :=
  if live = c.filtered then { c with live := live, candidate := none, agreement := 0 }
  else
    let n := if c.candidate = some live then c.agreement + 1 else 1
    if n = 4 then { c with live := live, filtered := live, candidate := none, agreement := 0 }
    else { c with live := live, candidate := some live, agreement := n }

/-- The seen flags at a change of the filtered state (R181). -/
def markSeen (new : Battery) (c : Csc) : Csc :=
  { c with lowSeen := c.lowSeen || new != .normal, criticalSeen := c.criticalSeen || new == .critical }

/-- BATTERY to the Application Port (R181). DESIGN CHOICE: its subscription field is none, which R190 says of RADIO_DOWN and
RADIO_UP alone (log 38). -/
def tellBattery (old new : Battery) (s : State) : State := notifyBare .P (.battery old new) s

/-- A change makes test 7 of a pending slumber entry fail (R168, R181). -/
def markEntry (s : State) : State :=
  updPower (fun p => { p with entry := p.entry.map (fun e => { e with batteryChanged := true }) }) s

/-- A change of the filtered state (R181): its effects at the sample while LT runs; otherwise the notice and the
thrift test wait, and the change is an early-wake event of a slumber. -/
def batteryChange (old new : Battery) (s : State) : State :=
  let t := updCsc (markSeen new) s
  if ltRuns s then settle (thriftTest (markEntry (tellBattery old new t)))
  else wakeEvent .battery (updCsc (fun c => { c with changes := c.changes ++ [(old, new)] }) t)

/-- BATTERY_SAMPLE: every 32nd sleep-clock edge, in every power state (R180, R181, log 5). -/
def execBatterySample (low critical : Bool) (s : State) : Answered :=
  if s.phase = .held then .next s
  else
    let t := updCsc (sampleFilter (liveState low critical)) s
    if t.csc.filtered = s.csc.filtered then .next t
    else .next (batteryChange s.csc.filtered t.csc.filtered t)

def tellBatteries : List (Battery × Battery) → State → State
  | [], s => s
  | c :: cs, s => tellBatteries cs (tellBattery c.1 c.2 s)

/-- The changes that waited for LT give their effects (R171 step 5, R181). -/
def heldChanges (s : State) : State :=
  thriftTest (updCsc (fun c => { c with changes := [] }) (tellBatteries s.csc.changes s))

/-! ### Slumber entry (R168, R169) -/

/-- A sleep-clock edge in DOZE with no entry pending at which tests 1 to 6 hold (R168). -/
def entryTestsHold (s : State) : Bool :=
  ltRuns s && s.power.state == .doze && s.power.entry.isNone && slumberTests s

/-- The RSQ answers at once in RADIO_DOWN, and with the record DOWN and nothing waiting that would change it (R72). -/
def answersAtOnce (s : State) : Bool := s.rsq.link != .up || (s.rsq.record == .down && s.rsq.waiting.isEmpty)

/-- The entry becomes pending and the RSQ is asked to power down (R72, R168). -/
def beginEntry (s : State) : State :=
  let a := answersAtOnce s
  let t := updPower (fun p => { p with entry := some { answered := a, batteryChanged := false } }) s
  if a then t else demand .powerDown t

/-- SLUMBER_ENTRY (R168). -/
def execSlumberEntry (s : State) : Answered := if entryTestsHold s then .next (settle (beginEntry s)) else .next s

/-- The pending entry whose answer has come (R168). -/
def answeredEntry (s : State) : Option SlumberEntry :=
  if ltRuns s && s.power.state == .doze then s.power.entry.filter (·.answered) else none

/-- A calibration that meets the stop edge is abandoned, once (R169). -/
def abandonCalibration (c : Csc) : Csc :=
  if c.cal = .idle then c else { c with cal := .idle, rescheduled := true }

/-- The reference stops (R168). -/
def stopReference (s : State) : State :=
  let w := slumberTarget s
  let n := slumberCycles (now s) w s.csc.c s.csc.k
  let r : SlumberRecord :=
    { l0 := now s, w := w, s := n, enable := n - s.csc.settle, cycles := 0, early := none }
  updCsc abandonCalibration (updPower (fun p =>
    { p with state := .slumber, entry := none, record := some r, early := none, wakeTarget := some w }) s)

/-- A test fails at the stop edge: the device stays awake, and its wake target is the slumber need (R168). A target already
reached is signalled at this event (R2). -/
def stayAwake (s : State) : State :=
  let w := slumberTarget s
  let t := updPower (fun p => { p with entry := none, wakeTarget := some w }) s
  if ltReached (now s) w then wakeUp t else t

/-- STOP_EDGE: the first sleep-clock edge after the RSQ's answer (R168, R169). DESIGN CHOICE: an answer given at once in
RADIO_DOWN stands though the link has come UP since, so that the reference may stop with the record not DOWN (log 37). -/
def execStopEdge (s : State) : Answered :=
  match answeredEntry s with
  | some e =>
    if slumberTests s && !e.batteryChanged then .next (stopReference s) else .next (settle (stayAwake s))
  | none => .next s

/-! ### Edges of a slumber (R170, R172) -/

/-- The slumber record while SLUMBER or WAKING lasts. -/
def recordIn (p : PowerState) (s : State) : Option SlumberRecord :=
  if s.power.state = p then s.power.record else none

/-- The oscillator is enabled at the next edge: WAKING, with the early-wake event taken there, if any (R170,
R172). -/
def enableAt (r : SlumberRecord) (s : State) : State :=
  let r' : SlumberRecord :=
    { r with cycles := r.cycles + 1, early := s.power.early.map (fun c => (r.cycles + 1, c)) }
  updPower (fun p => { p with state := .waking, record := some r', early := none }) s

/-- An edge that counts a cycle and does nothing else. -/
def countCycle (r : SlumberRecord) (s : State) : State :=
  let r' : SlumberRecord := { r with cycles := r.cycles + 1 }
  updPower (fun p => { p with record := some r' }) s

/-- ENABLE_CYCLE: the edge of the enable cycle (R170). -/
def execEnableCycle (s : State) : Answered :=
  match recordIn .slumber s with
  | some r => if r.cycles + 1 = r.enable then .next (enableAt r s) else .next s
  | none => .next s

/-- EARLY_WAKE: the next edge in SLUMBER takes a waiting early-wake event (R172). -/
def execEarlyWake (s : State) : Answered :=
  match recordIn .slumber s with
  | some r => if s.power.early.isSome then .next (enableAt r s) else .next s
  | none => .next s

/-! ### The restoring of LT (R3, R171) -/

/-- What the jump in LT may have passed: frame starts and registered deadlines (R3), the wake target among them
(R167). -/
inductive Passed where
  | frame (x : Subscription)
  | fallback
  | exchange (x : Subscription)
  | lease (x : Subscription)
  | confirm (x : Subscription)
  | lost (x : Subscription) (k : Pat)
  | probe
  | cal
  | wake
  deriving DecidableEq, Repr

def passedFrames : List Passed := [.frame .A, .frame .B, .fallback]

def passedDeadlines : List Passed :=
  [.exchange .A, .exchange .B, .lease .A, .lease .B, .confirm .A, .confirm .B, .lost .A .page, .lost .A .call,
   .lost .A .meas, .lost .B .page, .lost .B .call, .lost .B .meas, .probe, .cal, .wake]

def allPassed : List Passed := passedFrames ++ passedDeadlines

def isPassed (s : State) : Passed → Bool
  | .frame x => frameStartDue x s
  | .fallback => fallbackDue s
  | .exchange x => (exchangeDue x s).isSome
  | .lease x => (leaseDue x s).isSome
  | .confirm x => (confirmDue x s).isSome
  | .lost x k => (lostDue x k s).isSome
  | .probe => probeDue s
  | .cal => calDueNow s
  | .wake => wakeTargetDue s

/-- One of them is taken, with its effects as though LT had counted through it (R3). DESIGN CHOICE: a notice it gives whose rule
names no stamp carries the restored LT, that of the event (R190; log 48). -/
def takePassed (p : Passed) (s : State) : State :=
  match p with
  | .frame x => takeFrameStart x s
  | .fallback => takeFallbackStart s
  | .exchange x =>
    match exchangeDue x s with
    | some d => expireExchange x d s
    | none => s
  | .lease x =>
    match leaseDue x s with
    | some d => endCall x (tellLeaseLost x d) s
    | none => s
  | .confirm x =>
    match confirmDue x s with
    | some r => revertHandover x r .deadline s
    | none => s
  | .lost x k =>
    match lostDue x k s with
    | some st => lostEnded x k st s
    | none => s
  | .probe => updRsq (fun r => { r with waiting := r.waiting ++ [.probe] }) s
  | .cal => updCsc calDueReached s
  | .wake => wakeUp s

/-- The choice of one among several that fall together is a free value (log 2). -/
def chooseOne {α : Type} (l : List α) (s : State) : Option (α × State) :=
  match l with
  | [] => none
  | [a] => some (a, s)
  | a :: b :: cs =>
    let all := a :: b :: cs
    (all[Config.pick s.free % all.length]?).map (fun v => (v, { s with free := s.free + 1 }))

/-- What has been passed of a list is taken one at a time, each complete before the next (R3, log 24). -/
def takeAllPassed (l : List Passed) : Nat → State → State
  | 0, s => s
  | n + 1, s =>
    match chooseOne (l.filter (isPassed s)) s with
    | some (p, t) => takeAllPassed l n (takePassed p t)
    | none => s

/-- The frame starts passed, then the deadlines, then the next occurrences that all of them bring, in the order of R62
(R3, log 24). -/
def catchUp (n : Nat) (s : State) : State :=
  materialiseAll (takeAllPassed passedDeadlines n (takeAllPassed passedFrames n s))

/-- Whether the jump in LT has passed anything. -/
def anyPassed (s : State) : Bool := allPassed.any (isPassed s)

/-- A bound on what a jump of this many ticks can pass: frames of three timebases, and the deadlines (log 18). -/
def catchUpBound (ticks : Nat) : Nat := 3 * (ticks / (Config.frameTicks - 2600) + 3) + 32

/-- LT is written and counts on; the power state is DOZE; the slumber record becomes the last slumber (R171 steps 1
and 2). -/
def restoreLt (r : SlumberRecord) (s : State) : State :=
  let c := s.csc
  let n := lastCycle r c.settle
  let e := slumberTicks n c.k c.f c.c
  let lt := ltAdd r.l0 e
  let last : LastSlumber :=
    { l0 := r.l0, w := r.w, cycles := n, e := e, residual := (r.w - lt).toNat,
      cause := (r.early.map (·.2)).getD .planned }
  updCsc (fun d => { d with f := slumberCarry n c.k c.f c.c })
    (updTbu (fun t => { t with lt := lt })
      (updPower (fun p => { p with state := .doze, record := none, early := none, last := some last }) s))

/-- A calibration that a slumber abandoned begins again (R171 step 4). -/
def resumeCalibration (c : Csc) : Csc := if c.rescheduled ∧ c.cal = .idle then { c with cal := .waiting } else c

/-- The last edge of a slumber (R171). -/
def endSlumber (r : SlumberRecord) (s : State) : State :=
  let e := slumberTicks (lastCycle r s.csc.settle) s.csc.k s.csc.f s.csc.c
  let t := restoreLt r s
  heldChanges (updCsc resumeCalibration (if anyPassed t then catchUp (catchUpBound e) t else t))

/-- SLUMBER_END (R3, R171). -/
def execSlumberEnd (s : State) : Answered :=
  match recordIn .waking s with
  | some r =>
    if r.cycles + 1 = lastCycle r s.csc.settle then .next (settle (endSlumber r s)) else .next s
  | none => .next s

/-! ### The wake target (R72, R167) -/

/-- WAKE_TARGET (R72, R167). -/
def execWakeTarget (s : State) : Answered := if wakeTargetDue s then .next (settle (wakeUp s)) else .next s

/-! ### The calibrator (R176, R177) -/

/-- CAL_START: a sleep-clock edge at which a waiting calibration finds the delivered flag set (R176, log 5). -/
def execCalStart (s : State) : Answered :=
  if ltRuns s && s.csc.cal == .waiting && s.tbu.delivered then
    .next (updCsc (fun c => { c with cal := .running (now s) s.tbu.trimWord }) s)
  else .next s

/-- The measured K lies within the window (R177). -/
def calAccepted (m c : Nat) : Bool := decide (nominalK c ≤ m + calWindow c) && decide (m ≤ nominalK c + calWindow c)

/-- The calibrator after a calibration's end, accepted or rejected (R177). -/
def calEnded (nw : LT) (c : Csc) : Csc :=
  { c with cal := .idle, rescheduled := false, lastCalEnd := some nw,
           calDue := some (ltAdd nw (c.interval * Config.second)) }

/-- A calibration is judged (R177). DESIGN CHOICE: the subscription field of CAL_REJECT is none (R190; log 38). -/
def judgeCal (start : LT) (trim : BitVec 13) (s : State) : State :=
  let m := (now s - start).toNat
  let t := updCsc (calEnded (now s)) s
  if calAccepted m s.csc.c then
    updTbu (fun b => { b with refTrim := trim })
      (updCsc (fun c => { c with k := m, valid := true, suspect := false }) t)
  else notifyBare .P (.calReject m (nominalK s.csc.c) s.csc.c) t

/-- CAL_END: the edge that completes 2^c sleep cycles (R177, log 5). -/
def execCalEnd (s : State) : Answered :=
  match s.csc.cal with
  | .running start trim => if ltRuns s then .next (settle (judgeCal start trim s)) else .next s
  | _ => .next s

/-! ### The first tick (R198) -/

/-- FIRST_REF_TICK: LT counts, and the RSQ sends POWER_UP and then STANDBY (R198, log 7). -/
def execFirstRefTick (s : State) : Answered :=
  if s.phase = .starting then
    .next (settle (heldChanges (demand (.powerUp false true) { s with phase := .running })))
  else .next s

end Sys2Proof.Machine
end

