-- ==== Sys2Proof/Machine/Timing.lean ====
section
/-! DEFINITION. The requests of chapter 1: ADJUST_TIMING, TRIM, READ_TIME. -/

namespace Sys2Proof.Machine

def adjustTimingReply (x : Subscription) (delta : Int) (s : State) : Reply :=
  if onCell (s.cxm.get x) then
    match s.tbu.record.get x with
    | some b =>
      let d := clampSlew delta
      .accept (okOr (d != delta)) .empty
        (updRecord x (some { b with slew := if d = 0 then none else some d }) s)
    | none => .refuse .state
  else .refuse .state

/-- ADJUST_TIMING (R10). -/
def execAdjustTiming (x : Subscription) (delta : Int) (s : State) : Answered :=
  serve x.port (.adjustTiming delta) (adjustTimingReply x delta) s

/-- The word lies more than 64 steps from the reference trim (R17). -/
def marksSuspect (word : Nat) (ref : BitVec 13) : Bool :=
  decide (ref.toNat + Config.trimStep < word) || decide (word + Config.trimStep < ref.toNat)

/-- What a TRIM does to the calibration (R176). -/
def trimCalibration (mark : Bool) (c : Csc) : Csc :=
  if mark then { c with suspect := true, cal := .waiting, calDue := none }
  else { c with cal := if c.cal = .idle then .idle else .waiting }

def trimReply (x : Subscription) (word : Nat) (s : State) : Reply :=
  if 8191 < word then .refuse .badValue
  else if anchor s = some x then
    .accept .ok .empty (updCsc (trimCalibration (marksSuspect word s.tbu.refTrim))
      (updTbu (fun t => { t with trimWord := BitVec.ofNat 13 word, delivered := false }) s))
  else .refuse .notAnchor

/-- TRIM (R17, R18, R176). -/
def execTrim (x : Subscription) (word : Nat) (s : State) : Answered := serve x.port (.trim word) (trimReply x word) s

def readTimeReply (q : Port) (s : State) : Reply :=
  match q.subscription with
  | some x => .quiet .ok (.stackTime (now s) (timeView s x) s.tbu.trimWord (anchor s)) s
  | none =>
    .quiet .ok (.appTime (now s) (timeView s .A) (timeView s .B) s.tbu.trimWord (anchor s) s.tbu.prefAnchor) s

/-- READ_TIME (R15). -/
def execReadTime (q : Port) (s : State) : Answered := serve q .readTime (readTimeReply q) s

end Sys2Proof.Machine
end

