-- ==== Sys2Proof/Machine/Dispatch.lean ====
section
/-! DEFINITION. One arm per row of the opcode table: each is one direct call of its meaning. -/

namespace Sys2Proof.Machine

def exec (i : Instr) (s : State) : Host.Outcome State Fault Refusal :=
  match i with
  | .activate x => Sys2Proof.Machine.execActivate x s
  | .deactivate x => Sys2Proof.Machine.execDeactivate x s
  | .camp x b => Sys2Proof.Machine.execCamp x b s
  | .reselect x b => Sys2Proof.Machine.execReselect x b s
  | .loseService x => Sys2Proof.Machine.execLoseService x s
  | .adjustTiming x delta => Sys2Proof.Machine.execAdjustTiming x delta s
  | .trim x word => Sys2Proof.Machine.execTrim x word s
  | .readTime q => Sys2Proof.Machine.execReadTime q s
  | .readContext q who => Sys2Proof.Machine.execReadContext q who s
  | .stagePaging x c => Sys2Proof.Machine.execStagePaging x c s
  | .pageResult x r => Sys2Proof.Machine.execPageResult x r s
  | .reserve x b => Sys2Proof.Machine.execReserve x b s
  | .cancel x slot gen => Sys2Proof.Machine.execCancel x slot gen s
  | .enterExchange x p timer => Sys2Proof.Machine.execEnterExchange x p timer s
  | .renewExchange x p timer => Sys2Proof.Machine.execRenewExchange x p timer s
  | .leaveExchange x => Sys2Proof.Machine.execLeaveExchange x s
  | .startCall x p lease => Sys2Proof.Machine.execStartCall x p lease s
  | .modifyCall x p => Sys2Proof.Machine.execModifyCall x p s
  | .renewHold x lease => Sys2Proof.Machine.execRenewHold x lease s
  | .endCall x => Sys2Proof.Machine.execEndCall x s
  | .setMeas x b => Sys2Proof.Machine.execSetMeas x b s
  | .setNeighbours x l => Sys2Proof.Machine.execSetNeighbours x l s
  | .addNeighbour x r => Sys2Proof.Machine.execAddNeighbour x r s
  | .removeNeighbour x tag channel => Sys2Proof.Machine.execRemoveNeighbour x tag channel s
  | .setClass x tag channel cls => Sys2Proof.Machine.execSetClass x tag channel cls s
  | .readBank x => Sys2Proof.Machine.execReadBank x s
  | .releaseBank x => Sys2Proof.Machine.execReleaseBank x s
  | .ackCandidate x tag channel => Sys2Proof.Machine.execAckCandidate x tag channel s
  | .handoverArm x b => Sys2Proof.Machine.execHandoverArm x b s
  | .handoverCancel x => Sys2Proof.Machine.execHandoverCancel x s
  | .handoverConfirm x => Sys2Proof.Machine.execHandoverConfirm x s
  | .handoverFail x => Sys2Proof.Machine.execHandoverFail x s
  | .readPlan start => Sys2Proof.Machine.execReadPlan start s
  | .readPower => Sys2Proof.Machine.execReadPower s
  | .clearBattery => Sys2Proof.Machine.execClearBattery s
  | .startCal => Sys2Proof.Machine.execStartCal s
  | .setPolicy b => Sys2Proof.Machine.execSetPolicy b s
  | .setVote q => Sys2Proof.Machine.execSetVote q s
  | .clearVote q => Sys2Proof.Machine.execClearVote q s
  | .fetchNotices q => Sys2Proof.Machine.execFetchNotices q s
  | .portReset x => Sys2Proof.Machine.execPortReset x s
  | .appPortReset => Sys2Proof.Machine.execAppPortReset s
  | .transactionStart q => Sys2Proof.Machine.execTransactionStart q s
  | .requestFrameComplete q tag len req => Sys2Proof.Machine.execRequestFrameComplete q tag len req s
  | .transactionEnd q => Sys2Proof.Machine.execTransactionEnd q s
  | .wakeAsserted q level => Sys2Proof.Machine.execWakeAsserted q level s
  | .resetNAsserted => Sys2Proof.Machine.execResetNAsserted s
  | .bringUp => Sys2Proof.Machine.execBringUp s
  | .firstRefTick => Sys2Proof.Machine.execFirstRefTick s
  | .frameStart x => Sys2Proof.Machine.execFrameStart x s
  | .fallbackFrameStart => Sys2Proof.Machine.execFallbackFrameStart s
  | .exchangeDeadline x => Sys2Proof.Machine.execExchangeDeadline x s
  | .leaseDeadline x => Sys2Proof.Machine.execLeaseDeadline x s
  | .confirmDeadline x => Sys2Proof.Machine.execConfirmDeadline x s
  | .prepareEntry => Sys2Proof.Machine.execPrepareEntry s
  | .entryStart => Sys2Proof.Machine.execEntryStart s
  | .entryEnd => Sys2Proof.Machine.execEntryEnd s
  | .gapWindowTune => Sys2Proof.Machine.execGapWindowTune s
  | .gapWindowOn => Sys2Proof.Machine.execGapWindowOn s
  | .gapWindowEnd => Sys2Proof.Machine.execGapWindowEnd s
  | .lostOccurrenceEnd x p => Sys2Proof.Machine.execLostOccurrenceEnd x p s
  | .probeTime => Sys2Proof.Machine.execProbeTime s
  | .calDue => Sys2Proof.Machine.execCalDue s
  | .wakeTarget => Sys2Proof.Machine.execWakeTarget s
  | .activityNeedReached => Sys2Proof.Machine.execActivityNeedReached s
  | .rclAck kind => Sys2Proof.Machine.execRclAck kind s
  | .readReportAck level metric => Sys2Proof.Machine.execReadReportAck level metric s
  | .trimAck => Sys2Proof.Machine.execTrimAck s
  | .probeAck => Sys2Proof.Machine.execProbeAck s
  | .linkFault => Sys2Proof.Machine.execLinkFault s
  | .slumberEntry => Sys2Proof.Machine.execSlumberEntry s
  | .stopEdge => Sys2Proof.Machine.execStopEdge s
  | .enableCycle => Sys2Proof.Machine.execEnableCycle s
  | .earlyWake => Sys2Proof.Machine.execEarlyWake s
  | .slumberEnd => Sys2Proof.Machine.execSlumberEnd s
  | .calStart => Sys2Proof.Machine.execCalStart s
  | .calEnd => Sys2Proof.Machine.execCalEnd s
  | .batterySample low critical => Sys2Proof.Machine.execBatterySample low critical s

end Sys2Proof.Machine
end

