-- ==== Sys2Proof/Machine/Idle.lean ====
section
/-! DEFINITION. What the device does when no command waits: it takes one of its own events that is due, or one clock
period passes (R1, R2, R3, R170, R186; log 1, 2). -/

namespace Sys2Proof.Machine

def rowIf (b : Bool) (i : Instr) : List Instr := if b then [i] else []

/-- A request in PENDING at a port is taken at an event of its own (R184, R186). -/
def requestRow (q : Port) (s : State) : List Instr :=
  match s.engines.get q with
  | .pending _ r => (rowOf q r).toList
  | _ => []

/-- The events of the plan, the link and the power decision that are due. -/
def sequenceRows (s : State) : List Instr :=
  rowIf (toPrepare s).isSome .prepareEntry ++ rowIf (startDue s).isSome .entryStart ++
  rowIf (endDue s).isSome .entryEnd ++ rowIf (gapTuneDue s).isSome .gapWindowTune ++
  rowIf (gapOnDue s).isSome .gapWindowOn ++ rowIf (gapCloseDue s).isSome .gapWindowEnd ++
  rowIf (timedOut s).isSome .linkFault ++ rowIf (activityDue s) .activityNeedReached

/-- The row of a frame start or registered deadline (R2). -/
def passedRow : Passed → Instr
  | .frame x => .frameStart x
  | .fallback => .fallbackFrameStart
  | .exchange x => .exchangeDeadline x
  | .lease x => .leaseDeadline x
  | .confirm x => .confirmDeadline x
  | .lost x k => .lostOccurrenceEnd x k
  | .probe => .probeTime
  | .cal => .calDue
  | .wake => .wakeTarget

/-- Every row of the device's own that is due while LT runs. -/
def dueRows (s : State) : List Instr :=
  if ltRuns s then
    requestRow .A s ++ requestRow .B s ++ requestRow .P s ++ sequenceRows s ++
    (allPassed.filter (isPassed s)).map passedRow
  else []

/-- The slumber record of SLUMBER or WAKING. -/
def slumbering (s : State) : Option SlumberRecord :=
  match recordIn .slumber s with
  | some r => some r
  | none => recordIn .waking s

/-- What the next sleep-clock edge of a slumber brings beyond counting: an early-wake event taken, the enable cycle, the
last cycle (R170, R172). -/
def edgeRow (s : State) (r : SlumberRecord) : Option Instr :=
  if s.power.state = .slumber then
    if s.power.early.isSome then some .earlyWake
    else if r.cycles + 1 = r.enable then some .enableCycle else none
  else if r.cycles + 1 = lastCycle r s.csc.settle then some .slumberEnd else none

/-- The event the device takes of its own, with the free counter advanced where it chose among several (log 2). -/
def idleEvent (s : State) : Option (Instr × State) :=
  match slumbering s with
  | some r => (edgeRow s r).map (fun i => (i, s))
  | none => chooseOne (dueRows s) s

/-- One clock period passes: a tick of LT, or a sleep-clock edge of a slumber; while the device is held or waits for its
first tick nothing happens (R1, R170, log 1). -/
def idleTick (s : State) : State :=
  match slumbering s with
  | some r => countCycle r s
  | none => if ltRuns s then updTbu (fun t => { t with lt := t.lt + 1 }) s else s

end Sys2Proof.Machine
end

