-- ==== Sys2Proof/Machine/Layout.lean ====
section
/-! DEFINITION. The frames as the processors see them (section 10-7): what a port shifts out, the bytes of an answer, of a
notice record and of a RESERVE body. The codes of request kinds, statuses, notices, entry kinds and reasons are not given
by the manual: each is a free value (log 22). No rule reads these bytes back. -/

namespace Sys2Proof.Machine

abbrev Byte := BitVec 8

/-- The kinds of notice, as the table of section 10-4 names them. -/
inductive NoticeKind where
  | done | truncated | cancelled | displaced | aborted | flushed | patternLost | callYield | page | readDone | pageMissed
  | incoming | exchangeExpired | leaseLost | callEnded | candidate | bankReady | syncDone | handoverSwitched | handoverDone
  | handoverFailed | reselectDone | radioDown | radioUp | battery | calReject
  deriving DecidableEq, Repr

/-- The kind of a notice (section 10-4). -/
def noticeKind : NoticeBody → NoticeKind
  | .done _ => .done
  | .truncated _ => .truncated
  | .cancelled _ => .cancelled
  | .displaced _ => .displaced
  | .aborted _ => .aborted
  | .flushed _ => .flushed
  | .patternLost _ => .patternLost
  | .callYield _ => .callYield
  | .page _ _ _ => .page
  | .readDone _ _ => .readDone
  | .pageMissed _ _ _ => .pageMissed
  | .incoming _ _ _ => .incoming
  | .exchangeExpired _ => .exchangeExpired
  | .leaseLost => .leaseLost
  | .callEnded _ => .callEnded
  | .candidate _ _ _ _ => .candidate
  | .bankReady _ _ _ => .bankReady
  | .syncCompleted _ => .syncDone
  | .syncAborted _ => .syncDone
  | .handoverSwitched _ _ _ => .handoverSwitched
  | .handoverDone _ _ => .handoverDone
  | .handoverFailed _ => .handoverFailed
  | .reselectDone _ _ _ => .reselectDone
  | .radioDown _ => .radioDown
  | .radioUp _ => .radioUp
  | .battery _ _ => .battery
  | .calReject _ _ _ => .calReject

/-! ### Codes the manual does not give -/

/-- FREE VALUE (log 22): the byte that names a status. -/
opaque statusCode : Status → Byte
/-- FREE VALUE (log 22): the byte that names a kind of plan entry. -/
opaque kindCode : Kind → Byte
/-- FREE VALUE (log 22): the byte that names a reason. -/
opaque reasonCode : Reason → Byte
/-- FREE VALUE (log 22): the byte that names the kind of a notice. -/
opaque noticeCode : NoticeKind → Byte
/-- FREE VALUE (log 22): the detail of a notice whose layout the manual does not print. -/
opaque detailOf : NoticeBody → Vector Byte 8
/-- FREE VALUE (log 22): the bytes of an answer's body whose layout the manual does not print, and how many of them there
are: 0 to 96 (R185). -/
opaque bodyOf : Body → Vector Byte 96
opaque bodySize : Body → Fin 97

/-! ### Fields -/

/-- A field of n bytes, most significant byte first (R185). -/
def fieldBytes : Nat → Nat → List Byte
  | 0, _ => []
  | n + 1, v => BitVec.ofNat 8 (v / 256 ^ n) :: fieldBytes n v

/-- The number that bytes spell, most significant byte first (R185). -/
def bytesValue : List Byte → Nat
  | [] => 0
  | b :: bs => b.toNat * 256 ^ bs.length + bytesValue bs

def slotByte (h : Handle) : Byte := BitVec.ofNat 8 h.slot.val

/-- 0 none, 1 A, 2 B (section 10-7). -/
def subscriptionByte : Option Subscription → Byte
  | none => 0
  | some .A => 1
  | some .B => 2

def flagByte (b : Bool) : Byte := if b then 1 else 0

/-! ### RESERVE -/

/-- A RESERVE body of 14 bytes: kind, start form, start, length, channel, TX level. `kindOf` says which kind a byte
names. -/
def reserveOfBytes (kindOf : Byte → Option Kind) (l : List Byte) : Option ReserveBody :=
  match l with
  | k :: f :: rest =>
    if rest.length = 12 then
      some { kind := kindOf k, form := f, start := BitVec.ofNat 48 (bytesValue (rest.take 6)),
             length := BitVec.ofNat 24 (bytesValue ((rest.drop 6).take 3)),
             channel := BitVec.ofNat 16 (bytesValue ((rest.drop 9).take 2)),
             txLevel := BitVec.ofNat 8 (bytesValue (rest.drop 11)) }
    else none
  | _ => none

/-! ### Notices -/

/-- The window-report detail, bytes 8 to 15. The reason is 0 where there is none; the level is in two's complement, 0
where no report was read. -/
def windowBytes (d : WindowDetail) : List Byte :=
  [slotByte d.handle, d.handle.gen, kindCode d.kind,
   match d.reason with
   | some r => reasonCode r
   | none => 0] ++
  fieldBytes 2 (BitVec.ofInt 16 (d.level.getD 0)).toNat ++ [flagByte d.level.isSome, 0]

/-- The window report a notice carries, for the six kinds that carry one. -/
def windowOf : NoticeBody → Option WindowDetail
  | .done d => some d
  | .truncated d => some d
  | .cancelled d => some d
  | .displaced d => some d
  | .aborted d => some d
  | .flushed d => some d
  | _ => none

/-- The detail of a notice, bytes 8 to 15: LEASE_LOST has none, and its bytes are 0 (sections 10-4, 10-7). -/
def detailBytes (b : NoticeBody) : List Byte :=
  match windowOf b with
  | some d => windowBytes d
  | none => if b = .leaseLost then List.replicate 8 0 else (detailOf b).toList

/-- A notice record of 16 bytes: kind, subscription, stamp, detail. -/
def noticeBytes (n : Notice) : List Byte :=
  noticeCode (noticeKind n.body) :: subscriptionByte n.sub :: (fieldBytes 6 n.stamp.toNat ++ detailBytes n.body)

/-! ### Answers -/

/-- The body of an answer: empty, RESERVE's 8 bytes, FETCH_NOTICES' 3 bytes and the records returned. -/
def bodyBytes (b : Body) : List Byte :=
  match b with
  | .empty => []
  | .reserved h start => slotByte h :: h.gen :: fieldBytes 6 start.toNat
  | .notices items overflow left =>
    BitVec.ofNat 8 items.length :: flagByte overflow :: BitVec.ofNat 8 left :: items.flatMap noticeBytes
  | b => (bodyOf b).toList.take (bodySize b).val

/-- An answer frame: the start marker, the request's tag, the status, the body length, the body. -/
def answerBytes (a : Answer) : List Byte :=
  0xA5#8 :: a.tag :: statusCode a.status :: BitVec.ofNat 8 (bodyBytes a.body).length :: bodyBytes a.body

/-- What a port shifts out on SDO (R184, section 10-8). -/
inductive Sdo where
  /-- CS_N is high: the line is not driven -/
  | released
  /-- fill bytes, 0x00 -/
  | fill
  /-- the start marker and the answer frame, then fill bytes -/
  | frame (bytes : List Byte)
  deriving DecidableEq, Repr

/-- SDO of a port: fill bytes until the answer is ready, also after a RESET_N within a transaction (R184, R197). -/
def sdo (q : Port) (s : State) : Sdo :=
  if s.pins.csLow.get q then
    match s.engines.get q with
    | .answering a => .frame (answerBytes a)
    | _ => .fill
  else .released

end Sys2Proof.Machine
end

