-- ==== Sys2Proof/Safety.lean ====
section
/-! DEFINITION. The laws of the manual that every state of the device keeps, as tests on a state. -/

namespace Sys2Proof.Machine

/-- A notice queue holds at most 16 notices (R191). -/
def queueBounded (q : NoticeQueue) : Bool := decide (q.items.length ≤ 16)

def queuesBounded (s : State) : Bool :=
  queueBounded s.queues.a && queueBounded s.queues.b && queueBounded s.queues.p

/-- Exactly one bank of a subscription is FILLING, and neither bank holds more than 8 records (R141). -/
def banksOk (m : Msu) : Bool :=
  ((m.bank0.state == .filling) != (m.bank1.state == .filling)) &&
  decide (m.bank0.records.length ≤ 8) && decide (m.bank1.records.length ≤ 8)

def allBanksOk (s : State) : Bool := banksOk s.msu.a && banksOk s.msu.b

/-- Without a claim the credit and the refill count are 0, with one the credit is at most credit_max (R55). -/
def creditOk (s : State) : Bool :=
  match s.ceu.claim with
  | none => s.credit.credit == 0 && s.credit.refill == 0
  | some _ => decide (s.credit.credit ≤ s.air.creditMax)

/-- x is on a cell: in CAMPED, EXCHANGE, CALL or HANDOVER (R22, table of section 2-2). -/
def hasCell (c : Context) : Bool := onCell c || c.state == .handover

/-- A pending slew lies within ±2,600 (R10). -/
def slewOk : Option Timebase → Bool
  | some b =>
    match b.slew with
    | some d => decide (-2600 ≤ d) && decide (d ≤ 2600)
    | none => true
  | none => true

/-- The context of x with what other blocks hold for its state: the fields present as R19 lists them, the claim as R108
says, the timebase and the serving cell present on a cell (R4, section 2-2), the handover record with HANDOVER (R30, R32),
the fallback timebase in SWITCHED (R6), a pending reselection only in CAMPED (R29), the exchange timer and the lease
setting as R104 lists them. -/
def contextOk (x : Subscription) (s : State) : Bool :=
  let c := s.cxm.get x
  let h := s.hou.get x
  let i := s.ceu.items.get x
  (c.prior.isSome == (c.state == .handover)) &&
  (c.purpose.isSome == inExchange c) &&
  (c.exchangeDeadline.isSome == (c.state == .exchange)) &&
  (c.leaseDeadline.isSome == inCall c) &&
  (c.serving.isSome == hasCell c) &&
  ((s.ceu.claim == some x) == inCall c) &&
  ((s.tbu.record.get x).isSome == hasCell c) &&
  slewOk (s.tbu.record.get x) &&
  (h.record.isSome == (c.state == .handover)) &&
  ((s.tbu.fallback.map (·.1) == some x) == (h.record.map (·.phase) == some .switched)) &&
  (!h.reselect.isSome || c.state == .camped) &&
  (i.timer.isSome == inExchange c) &&
  (i.lease.isSome == inCall c)

/-- Both contexts are as `contextOk` says, and at most one is in HANDOVER (R148, test 2). -/
def contextsOk (s : State) : Bool :=
  contextOk .A s && contextOk .B s && !(s.cxm.a.state == .handover && s.cxm.b.state == .handover)

/-- The serving filtered level is absent off a cell (R19); a handover record keeps a fallback cell and a confirm deadline
exactly in SWITCHED (R147). -/
def contextFieldsOk (x : Subscription) (s : State) : Bool :=
  (hasCell (s.cxm.get x) || (s.cxm.get x).level.isNone) &&
  (match (s.hou.get x).record with
   | some r => (r.fallbackCell.isSome == (r.phase == .switched)) && (r.confirm.isSome == (r.phase == .switched))
   | none => true)

/-- The laws of the contexts with those of their levels and handover records. -/
def contextsLawful (s : State) : Bool := contextsOk s && contextFieldsOk .A s && contextFieldsOk .B s

/-! ### The plan (R39, R40, R73) -/

/-- No two entries occupy one slot (R39). -/
def slotsDistinct : List Entry → Bool
  | [] => true
  | e :: es => es.all (fun f => e.handle.slot != f.handle.slot) && slotsDistinct es

/-- The plan holds at most 48 entries, and a subscription at most 20 one-shots (R40); no two entries have one slot (R39); at
most one is PREPARING and at most one EXECUTING (R67, R73, R74). -/
def planOk (s : State) : Bool :=
  decide (s.plan.length ≤ 48) && decide (oneShotCount .A s ≤ 20) && decide (oneShotCount .B s ≤ 20) &&
  slotsDistinct s.plan && decide ((s.plan.filter (fun e => e.state == .preparing)).length ≤ 1) &&
  decide ((s.plan.filter (fun e => e.state == .executing)).length ≤ 1)

/-- The local starts of a list of entries, counted from an instant `b`, lie within half the circle and rise or stay equal
(R1, R40). -/
def orderedFrom (b : LT) (l : List Entry) : Prop :=
  (∀ e ∈ l, (e.start - b).toNat < 2 ^ 47) ∧ l.Pairwise (fun e f => (e.start - b).toNat ≤ (f.start - b).toNat)

/-! ### The neighbour ring (R128, R133, R134, R145, R154) -/

/-- No cell of the list stands in it twice (R128). -/
def cellsDistinct : List Cell → Bool
  | [] => true
  | c :: cs => !cs.contains c && cellsDistinct cs

def Neighbour.cell (n : Neighbour) : Cell := { tag := n.tag, channel := n.channel }

/-- A selection that is not void names positions of the ring, and so does its stop position (R134). -/
def selectionOk (len : Nat) : Option Selection → Bool
  | some r =>
    r.void || (r.list.all (fun t => decide (t.position < len)) && (r.list.isEmpty || decide (r.stopPosition < len)))
  | none => true

/-- What the handover record of x says of the ring: armed, the target is another cell than the serving one; switched, the
target is the serving cell, the fallback cell is another one and not in the ring, and the record held aside is the target's,
with a position in the ring (R147, R148, R154). -/
def heldOk (serving : Option Cell) (ring : List Neighbour) (r : HandoverRecord) : Bool :=
  let target : Cell := { tag := r.tag, channel := r.channel }
  if r.phase = .switched then
    serving == some target &&
    (match r.fallbackCell with
     | some f => f.cell != target && !(ring.map Neighbour.cell).contains f.cell
     | none => true) &&
    (match r.held with
     | some (n, p) => n.cell == target && decide (p ≤ ring.length)
     | none => true)
  else r.held.isNone && serving != some target

/-- The ring of x: distinct cells, the serving cell not among them, at most 16 records with the one held aside, the pointer
within the ring, no ring off a cell; a pending reselection names another cell than the serving one (R128, R133, R160). -/
def ringOk (x : Subscription) (s : State) : Bool :=
  let c := s.cxm.get x
  let m := s.msu.get x
  let h := s.hou.get x
  let held := match h.record.bind (·.held) with
    | some _ => 1
    | none => 0
  cellsDistinct (m.ring.map Neighbour.cell) &&
  (match c.serving with
   | some k => !(m.ring.map Neighbour.cell).contains k
   | none => m.ring.isEmpty) &&
  decide (m.ring.length + held ≤ 16) && decide (m.pointer < max 1 (m.ring.length + held)) &&
  selectionOk m.ring.length (s.selection.get x) &&
  (match h.record with
   | some r => heldOk c.serving m.ring r
   | none => true) &&
  (match h.reselect with
   | some r => c.serving != some { tag := r.tag, channel := r.channel }
   | none => true)

/-- A request that waits in an engine fits a frame of 96 body bytes (R185), so that a list of neighbours holds at most 16. -/
def requestFits : Engine → Bool
  | .pending _ r => decide (bodyLength r ≤ 96)
  | _ => true

/-- The rings of both subscriptions, with the laws of the contexts and of the waiting requests that they rest on. -/
def ringsOk (s : State) : Bool :=
  contextsLawful s && ringOk .A s && ringOk .B s && requestFits s.engines.a && requestFits s.engines.b && requestFits s.engines.p

end Sys2Proof.Machine
end

