-- ==== Sys2Proof/Certificates/Slice0/Obligations.lean ====
section
/-! DEFINITION. The statements for the provers. A request statement says, for every state in which the port's engine
holds the request and LT runs, the whole next state: the tests in the order of the rule, the answer, and every field that
changes; `settle` is what follows any change within the same event, and `SettleFrame` says what it leaves alone and when it
does nothing. An event statement says the same of an event of the device that has happened. -/

namespace Sys2Proof.Machine

/-- A request taken with its effects `t`: what follows any change, then the answer at the port. -/
def tookEffect (q : Port) (tag : BitVec 8) (st : Status) (b : Body) (t : State) : Answered :=
  .next (answer q tag st b (settle t))

/-- A request that reads state, or changes only what its port holds: the answer over `t`. -/
def answeredOnly (q : Port) (tag : BitVec 8) (st : Status) (b : Body) (t : State) : Answered :=
  .next (answer q tag st b t)

/-- A refused request: the status with an empty body, and nothing else changed (R189). -/
def refusedWith (q : Port) (tag : BitVec 8) (st : Status) (s : State) : Answered := .next (answer q tag st .empty s)

/-- An event that happened with its effects `t`, and what follows any change. -/
def happened (t : State) : Answered := .next (settle t)

end Sys2Proof.Machine

open Sys2Proof Sys2Proof.Machine

/-! ### The machine as a whole -/

/-- The step takes the command at the front of the queue and runs its meaning with the queue's rest. -/
def Obligations.StepTakesFront : Prop :=
  ∀ (c : Instr) (rest : List Instr) (s : State), s.pending = c :: rest → step s = exec c { s with pending := rest }

/-- A step on an empty queue (log 1). While LT runs it takes one of the device's own events that is due: the one, or any one of
several, the free counter then rising (log 2); with none due LT rises by one, modulo 2^48 (R1). The device held or waiting
for its first tick does nothing. In a slumber it takes what the next sleep-clock edge brings, an early wake, the enable
cycle or the end of the slumber (R170, R172), and an edge that brings nothing else counts a cycle.
Which events are due while LT runs: a request held at a port (R186), the frame starts (R5, R6), every registered deadline
that is reached (R2), the preparation, start and end of an entry and the instants of a gap's windows (R73 to R76; in a
truncated gap a window that would close after the new end is not begun, R77, and one that is tuned and not open counts as
not begun by the model's reading, log 14), a command in flight for 260 ticks (R69; due at 260 exactly by its choice,
log 19), the activity need (R165); and no others. -/
def Obligations.IdleStepIsOneClockPeriod : Prop :=
  (∀ s : State, s.pending = [] → ltRuns s = true → dueRows s = [] →
    step s = .next { s with tbu := { s.tbu with lt := s.tbu.lt + 1 } }) ∧
  (∀ (i : Instr) (s : State), s.pending = [] → ltRuns s = true → dueRows s = [i] → step s = exec i s) ∧
  (∀ (i j : Instr) (l : List Instr) (s : State), s.pending = [] → ltRuns s = true → dueRows s = i :: j :: l →
    ∃ k ∈ dueRows s, step s = exec k { s with free := s.free + 1 }) ∧
  (∀ s : State, s.pending = [] → s.phase ≠ .running → s.power.state = .doze → step s = .next s) ∧
  (∀ (r : SlumberRecord) (s : State), s.pending = [] → s.power.state = .slumber → s.power.record = some r →
    (∀ c, s.power.early = some c → step s = exec .earlyWake s) ∧
    (s.power.early = none → r.cycles + 1 = r.enable → step s = exec .enableCycle s) ∧
    (s.power.early = none → r.cycles + 1 ≠ r.enable →
      step s = .next { s with power := { s.power with record := some { r with cycles := r.cycles + 1 } } })) ∧
  (∀ (r : SlumberRecord) (s : State), s.pending = [] → s.power.state = .waking → s.power.record = some r →
    (r.cycles + 1 = lastCycle r s.csc.settle → step s = exec .slumberEnd s) ∧
    (r.cycles + 1 ≠ lastCycle r s.csc.settle →
      step s = .next { s with power := { s.power with record := some { r with cycles := r.cycles + 1 } } })) ∧
  (∀ s : State, ltRuns s = true →
    let due (i : Instr) : Prop := i ∈ dueRows s
    let nw := s.tbu.lt
    let frame (b : Timebase) : Prop := ltReached nw (b.ltRef + BitVec.ofNat 48 260000) = true
    let reached (d : Option LT) : Prop := ∃ l, d = some l ∧ ltReached nw l = true
    let first (st : EntryState) (e : Entry) : Prop := s.plan.find? (fun f => f.state == st) = some e
    let window (st : GapStage) (n : GapRun → Nat) : Prop :=
      ∃ g e, s.rsq.gap = some g ∧ s.plan.find? (fun f => f.handle == g.handle) = some e ∧ g.index < g.count ∧ g.stage = st ∧
        ltReached e.stop (e.start + BitVec.ofNat 48 (g.index * (g.guard + 13000)) + BitVec.ofNat 48 (g.guard + 13000)) = true ∧
        ltReached nw (e.start + BitVec.ofNat 48 (g.index * (g.guard + 13000)) + BitVec.ofNat 48 (n g)) = true
    (∀ i q r, requestOf i = some (q, r) → (due i ↔ ∃ tag, s.engines.get q = .pending tag r)) ∧
    (∀ x, (due (.frameStart x) ↔ ∃ b, s.tbu.record.get x = some b ∧ frame b) ∧
      (due (.exchangeDeadline x) ↔ (s.cxm.get x).state = .exchange ∧ reached (s.cxm.get x).exchangeDeadline) ∧
      (due (.leaseDeadline x) ↔
        ((s.cxm.get x).state = .call ∨ ((s.cxm.get x).state = .handover ∧ (s.cxm.get x).prior = some .call)) ∧
        reached (s.cxm.get x).leaseDeadline) ∧
      (due (.confirmDeadline x) ↔ ∃ r, (s.hou.get x).record = some r ∧ r.phase = .switched ∧ reached r.confirm) ∧
      (∀ k, due (.lostOccurrenceEnd x k) ↔ ∃ a b, (patternOf x k s).pending = .lost a b ∧ ltReached nw b = true)) ∧
    (due .fallbackFrameStart ↔ ∃ x b, s.tbu.fallback = some (x, b) ∧ frame b) ∧
    (due .probeTime ↔ s.rsq.link = .radioDown ∧ reached s.rsq.probeTime ∧ Cmd.probe ∉ s.rsq.waiting) ∧
    (due .calDue ↔ reached s.csc.calDue) ∧ (due .wakeTarget ↔ reached s.power.wakeTarget) ∧
    (due .prepareEntry ↔ (∀ e ∈ s.plan, e.state ≠ .preparing) ∧ gapBlocks s = false ∧
      ∃ e, first .admitted e ∧ ltReached nw (e.start - BitVec.ofNat 48 6500) = true) ∧
    (due .entryStart ↔ (∀ e ∈ s.plan, e.state ≠ .executing) ∧ ∃ e, first .preparing e ∧ ltReached nw e.start = true) ∧
    (due .entryEnd ↔ ∃ e, first .executing e ∧ ltReached nw e.stop = true) ∧
    (due .gapWindowTune ↔ window .tuneDue (fun _ => 0)) ∧ (due .gapWindowOn ↔ window .onDue (fun g => g.guard)) ∧
    (due .gapWindowEnd ↔ window .opened (fun g => g.guard + 13000)) ∧
    (due .linkFault ↔ ∃ c l, s.rsq.inFlight = some (c, l) ∧ ltReached nw (l + BitVec.ofNat 48 260) = true) ∧
    (due .activityNeedReached ↔ s.power.state = .doze ∧ ((∃ e ∈ s.plan, e.state ≠ .admitted) ∨
      ∃ n, activityNeed s = some n ∧ ltReached nw (n - BitVec.ofNat 48 26000) = true)) ∧
    ∀ i, due i → (∃ p, requestOf i = some p) ∨ (∃ x, i = .frameStart x ∨ i = .exchangeDeadline x ∨ i = .leaseDeadline x ∨
      i = .confirmDeadline x ∨ ∃ k, i = .lostOccurrenceEnd x k) ∨ i = .fallbackFrameStart ∨ i = .probeTime ∨ i = .calDue ∨
      i = .wakeTarget ∨ i = .prepareEntry ∨ i = .entryStart ∨ i = .entryEnd ∨ i = .gapWindowTune ∨ i = .gapWindowOn ∨
      i = .gapWindowEnd ∨ i = .linkFault ∨ i = .activityNeedReached)

/-- A request row whose port does not hold exactly that request, or while LT does not run, changes nothing (log 3, 4). A taken
request is answered at its own port with its own tag and one status; the other engines, the input levels, the waiting
commands and the free counter are as they were (R184, R185). -/
def Obligations.RequestIsAnsweredOnceWithItsTag : Prop :=
  (∀ (i : Instr) (q : Port) (r : Request) (s : State),
     requestOf i = some (q, r) → pendingTag q r s = none → exec i s = .next s) ∧
  (∀ (i : Instr) (q : Port) (r : Request) (tag : BitVec 8) (s : State),
     requestOf i = some (q, r) → pendingTag q r s = some tag →
     ∃ (st : Status) (b : Body) (t : State), exec i s = .next t ∧
       t.engines = s.engines.set q (.answering { tag := tag, status := st, body := b }) ∧
       t.pins = s.pins ∧ t.phase = s.phase ∧ t.pending = s.pending ∧ t.free = s.free)

/-- A request answered with a status other than OK or CLAMPED has an empty body and no effect but the answer (R189). -/
def Obligations.RefusedRequestHasNoEffect : Prop :=
  ∀ (i : Instr) (q : Port) (r : Request) (tag : BitVec 8) (st : Status) (b : Body) (s t : State),
    requestOf i = some (q, r) → pendingTag q r s = some tag → exec i s = .next t →
    t.engines.get q = .answering { tag := tag, status := st, body := b } → st ≠ .ok → st ≠ .clamped →
    b = .empty ∧ t = { s with engines := s.engines.set q (.answering { tag := tag, status := st, body := .empty }) }

/-- What follows every event leaves alone local time and the timebases, the contexts, the settings, the claim and the call
items, the measurement state but for a ring's pointer and round (a gap that starts moves them, R134), the handover records,
the controller's items, the engines, the input levels and the votes; it raises no credit and does not change the refill
count.
What it brings, which the model gathers in one operation (log 23): the next occurrence of the pattern whose turn R62 puts
first is materialised, then the others, as though the event had ended there (their bound: log 18); raised guards that every
pair keeps come into force (R44); an entry to be prepared becomes PREPARING, with its TUNE due (R73; when a truncated gap no
longer holds it off: log 14); the power state becomes the one R165 calls for, with POWER_UP or STANDBY (R71), ACTIVE ending
a slumber entry and the wake target (R167, R168); a wake target held with the record DOWN follows the slumber need, and one
reached has the transceiver powered up within the event (R72, R167; log 29); and then what waits for the link is sent (R69).
It changes nothing at all where no pattern's next occurrence is due (R62), the guards in force are the set ones (R44), no
entry is to be prepared (R73), the power state is the one R165 calls for, no wake target is held (R167), and no command
waits or is owed (R69, R80, R84). -/
def Obligations.SettleFrame : Prop :=
  (∀ s : State, (settle s).phase = s.phase ∧ (settle s).tbu = s.tbu ∧ (settle s).cxm = s.cxm ∧ (settle s).air = s.air ∧
     (settle s).ceu = s.ceu ∧ (settle s).hou = s.hou ∧ (settle s).csc = s.csc ∧
     (settle s).engines = s.engines ∧ (settle s).pins = s.pins ∧ (settle s).votes = s.votes ∧
     (settle s).pending = s.pending ∧ (settle s).free = s.free ∧
     (settle s).credit.credit ≤ s.credit.credit ∧ (settle s).credit.refill = s.credit.refill ∧
     ∀ x, ∃ pointer round, (settle s).msu.get x = { s.msu.get x with pointer := pointer, round := round }) ∧
  (∀ s : State, duePatterns s = [] → s.guards = { retune := s.air.gRetune, turn := s.air.gTurn } →
     toPrepare s = none → (wantsActive s = true ↔ s.power.state = .active) → s.power.wakeTarget = none →
     s.rsq.waiting = [] → s.rsq.recoveryOwed = false → s.tbu.delivered = true → settle s = s) ∧
  (∀ (x : Subscription) (k : Pat) (st : LT) (s : State), firstDue (duePatterns s) = some (x, k, st) →
     duePatterns (materialiseAll s) = [] → settle s = settle (materialise x k s)) ∧
  (∀ s : State, duePatterns s = [] →
     s.plan.Pairwise (fun e f => conflicts s.air.gRetune s.guards.turn e f = false) →
     s.plan.Pairwise (fun e f => conflicts s.air.gRetune s.air.gTurn e f = false) →
     settle s = settle { s with guards := { retune := s.air.gRetune, turn := s.air.gTurn } }) ∧
  (∀ s : State, duePatterns s = [] → s.guards = { retune := s.air.gRetune, turn := s.air.gTurn } → ltRuns s = true →
     let active : Prop := (∃ e ∈ s.plan, e.state ≠ .admitted) ∨
       ∃ n, activityNeed s = some n ∧ ltReached s.tbu.lt (n - BitVec.ofNat 48 26000) = true
     let inPower (f : Power → Power) : State := { s with power := f s.power }
     (toPrepare s = none →
       (active → s.power.state = .doze → settle s = dispatch (demand (.powerUp false false)
         (inPower (fun p => { p with state := .active, entry := none, wakeTarget := none })))) ∧
       (¬ active → s.power.state = .active → s.power.wakeTarget = none →
         settle s = dispatch (demand .standby (inPower (fun p => { p with state := .doze })))) ∧
       ((active ↔ s.power.state = .active) → s.power.wakeTarget = none → settle s = dispatch s) ∧
       (∀ w n, (active ↔ s.power.state = .active) → s.power.wakeTarget = some w → s.rsq.record = .down →
         slumberNeed s = some n →
         settle s = dispatch (if ltReached s.tbu.lt n = true then
             demand (.powerUp false true) (inPower (fun p => { p with wakeTarget := none }))
           else inPower (fun p => { p with wakeTarget := some n })))) ∧
     (∀ e u, active → s.power.state = .active → s.power.wakeTarget = none → (∀ f ∈ s.plan, f.state ≠ .preparing) →
       gapBlocks s = false → s.plan.find? (fun f => f.state == .admitted) = some e →
       (∀ f ∈ s.plan, f.handle = e.handle → f = e) →
       ltReached s.tbu.lt (e.start - BitVec.ofNat 48 6500) = true → ltReached s.tbu.lt e.start = false →
       s.rsq.link = .up → s.rsq.record = .ready → s.rsq.settledAt = some u → ltReached e.start u = true →
       let prepared : State :=
         { s with plan := s.plan.map (fun f => if f.handle = e.handle then { f with state := .preparing } else f) }
       settle s = dispatch (if e.kind = .measureGap then prepared
         else demand (.tune (.entry e.handle) e.channel e.dir e.index e.txLevel) prepared)))

/-! ### Laws that every step keeps -/

/-- No notice queue holds more than 16 notices (R191). -/
def Obligations.QueuesStayBounded : Prop :=
  ∀ s t : State, queuesBounded s = true → step s = .next t → queuesBounded t = true

/-- Of a subscription's two report banks exactly one is FILLING, and no bank holds more than 8 records (R141). -/
def Obligations.BanksStayLawful : Prop :=
  ∀ s t : State, allBanksOk s = true → step s = .next t → allBanksOk t = true

/-- The credit is at most credit_max, and 0 with no claim held (R55). -/
def Obligations.CreditStaysLawful : Prop :=
  ∀ s t : State, creditOk s = true → step s = .next t → creditOk t = true

/-- Each context has exactly the fields of its state, its filtered level absent off a cell (R19); the claim names a
subscription exactly when it is in CALL or in HANDOVER with prior state CALL (R108); the timebase and the serving cell are
present exactly on a cell (R4), the handover record exactly in HANDOVER, its fallback cell and confirm deadline exactly in
SWITCHED (R147), the fallback timebase exactly in SWITCHED (R6); and the other laws of `contextOk`; at most one subscription
is in HANDOVER (R148). -/
def Obligations.ContextsStayLawful : Prop :=
  ∀ s t : State, contextsLawful s = true → step s = .next t → contextsLawful t = true

/-- The plan holds at most 48 entries, a subscription at most 20 one-shots (R40), no two entries have one slot (R39), at most
one entry is PREPARING and at most one EXECUTING (R67, R73, R74).
Admission, the one way into the plan, keeps it in order of local start (R40): since LT wraps at 2^48 (R1), the order is that of
the starts counted from any instant after which all of them lie within half the circle. -/
def Obligations.PlanStaysLawful : Prop :=
  (∀ s t : State, planOk s = true → step s = .next t → planOk t = true) ∧
  (∀ (b : LT) (moved : Bool) (ms : List Entry) (hs : List Handle) (s t : State), orderedFrom b s.plan →
    (∀ m ∈ ms, (m.start - b).toNat < 2 ^ 47) → admitEntries moved ms s = .admitted hs t → orderedFrom b t.plan)

/-- A subscription's ring holds distinct cells, not the serving one among them, and at most 16 with the record a handover holds
aside (R128, R129, R130, R154); its pointer lies within the ring (R128, R133); off a cell there is none (R36, R124); a
selection that is not void names positions of the ring (R134); in SWITCHED the serving cell is the target, the fallback cell is
another one and not in the ring, and the record held aside is the target's (R152, R154); an armed target and a pending
reselection's are not the serving cell (R148, R160). The law rests on those of the contexts, and on a waiting request fitting
its 96 bytes (R185). -/
def Obligations.RingsStayLawful : Prop :=
  ∀ s t : State, ringsOk s = true → step s = .next t → ringsOk t = true

/-- After reset the six laws hold. -/
def Obligations.LawsHoldAtReset : Prop :=
  queuesBounded State.reset = true ∧ allBanksOk State.reset = true ∧ creditOk State.reset = true ∧
  contextsLawful State.reset = true ∧ planOk State.reset = true ∧ ringsOk State.reset = true

/-! ### Contexts (chapter 2) -/

/-- ACTIVATE (R23).
CAMP (R13, R24): taken in SEARCHING, its values tested, the record set with no slew, the context CAMPED on the given
cell with no level, then PAGE and MEAS made active (their order: log 17). -/
def Obligations.ActivateAndCamp : Prop :=
  (∀ (x : Subscription) (tag : BitVec 8) (s : State), pendingTag x.port .activate s = some tag →
     exec (.activate x) s =
       if (s.cxm.get x).state = .absent then
         tookEffect x.port tag .ok .empty { s with cxm := s.cxm.set x { s.cxm.get x with state := .searching } }
       else refusedWith x.port tag .state s) ∧
  (∀ (x : Subscription) (b : CampBody) (tag : BitVec 8) (s : State), pendingTag x.port (.camp b) s = some tag →
     exec (.camp x b) s =
       if (s.cxm.get x).state ≠ .searching then refusedWith x.port tag .state s
       else if b.tag ≤ 1023 ∧ b.channel ≤ 4095 ∧ b.fn ≤ 4095 ∧
           ((b.lt - s.tbu.lt).toNat < 260000 ∨ (s.tbu.lt - b.lt).toNat < 260000) then
         let record : Timebase := { fnRef := BitVec.ofNat 12 b.fn, ltRef := b.lt, slew := none }
         let context : Context :=
           { s.cxm.get x with state := .camped, serving := some { tag := b.tag, channel := b.channel }, level := none }
         let t : State :=
           { s with tbu := { s.tbu with record := s.tbu.record.set x (some record) }, cxm := s.cxm.set x context }
         tookEffect x.port tag .ok .empty (activate x .meas (activate x .page t))
       else refusedWith x.port tag .badValue s)

/-- DEACTIVATE (R34), LOSE_SERVICE (R33) and a stack PORT_RESET (R37, R195) tear the subscription down; a PORT_RESET then
empties the port's queue and clears its overflow flag and its vote.
What a teardown removes (R35, R36, R85, R91, R123, R124, R158), and what it leaves: every entry of the subscription leaves
the plan, its patterns, paging items but the epoch, call items, measurement items, handover records, timebase, fallback
timebase, ended windows and context fields go, the claim it held is released with the credit and CALL_ENDED goes to the
Application Port, and nothing of the other subscription or of the settings changes. For every entry of the subscription that
is EXECUTING, a gap too, an OFF falls due, and no setup command of its entries waits any longer, nor a READ_REPORT of a gap
that is EXECUTING (R35, R69, R77; that this OFF is sent for a gap with no window open: log 41; that a TUNE or ON of an
EXECUTING entry that still waits is not sent: log 47; that a READ_REPORT of an ended window that waits is not withdrawn:
log 36). -/
def Obligations.TeardownOfASubscription : Prop :=
  (∀ (x : Subscription) (tag : BitVec 8) (s : State),
     let down : State := if (s.cxm.get x).state = .absent then s else teardown x .absent s
     (pendingTag x.port .deactivate s = some tag →
       exec (.deactivate x) s = tookEffect x.port tag .ok .empty down) ∧
     (pendingTag x.port .loseService s = some tag →
       exec (.loseService x) s =
         if (s.cxm.get x).state = .absent then refusedWith x.port tag .state s
         else tookEffect x.port tag .ok .empty (teardown x .searching s)) ∧
     (pendingTag x.port .portReset s = some tag →
       exec (.portReset x) s = tookEffect x.port tag .ok .empty
         { down with queues := down.queues.set x.port { items := [], overflow := false },
                     votes := down.votes.set x.port false })) ∧
  (∀ (x : Subscription) (c : CtxState) (s : State),
     let t := teardown x c s
     let held : Bool := s.ceu.claim == some x
     t.plan = s.plan.filter (fun e => !s.plan.any (fun f => f.owner == x && f.handle == e.handle)) ∧
     t.patterns = s.patterns.set x Patterns.atReset ∧
     t.pgu = s.pgu.set x { Pgu.atReset with epoch := (s.pgu.get x).epoch } ∧
     t.ceu = { claim := if held then none else s.ceu.claim, items := s.ceu.items.set x CeuItems.atReset } ∧
     t.msu = s.msu.set x Msu.atReset ∧ t.selection = s.selection.set x none ∧ t.hou = s.hou.set x Hou.atReset ∧
     t.tbu = { s.tbu with record := s.tbu.record.set x none,
                          fallback := s.tbu.fallback.filter (fun f => f.1 != x) } ∧
     t.rsq.ended = s.rsq.ended.filter (fun w => w.entry.owner != x) ∧
     t.cxm = s.cxm.set x { Context.atReset with state := c } ∧
     t.missed = (if c = .absent then s.missed.set x 0 else s.missed) ∧
     t.credit = (if held then { credit := 0, refill := 0 } else s.credit) ∧
     t.queues = (if held then
         s.queues.upd .P (fun n => n.push { body := .callEnded .teardown, sub := some x, stamp := s.tbu.lt })
       else s.queues) ∧
     t.csc = s.csc ∧ t.power = s.power ∧ t.air = s.air ∧ t.guards = s.guards ∧ t.engines = s.engines ∧
     t.pins = s.pins ∧ t.votes = s.votes ∧ t.rsq.inFlight = s.rsq.inFlight ∧ t.rsq.link = s.rsq.link ∧
     t.rsq.record = s.rsq.record ∧ t.rsq.faults = s.rsq.faults ∧
     (s.rsq.link = .up → slotsDistinct s.plan = true →
       t.rsq.waiting = s.rsq.waiting.filter (fun k => decide (∀ e ∈ s.plan, e.owner = x →
           isSetupFor e.handle k = false ∧ ¬ (e.state = .executing ∧ isReadOf e.handle k = true))) ++
         (s.plan.filter (fun e => e.owner == x && e.state == .executing)).map (fun _ => .off .none) ∧
       ∀ h k, isReadOf h k = true ↔ ∃ i, k = .readReport (.gap h i)))

/-- READ_CONTEXT (R20): from a stack port its own subscription, from the Application Port the one named; the record, the
missed-page count, the phase in HANDOVER, a pending RESELECT's switch frame, and whether the claim names it.
READ_PLAN (R66): the number of entries, up to four entries in plan order from the start position, the credit and refill
count, the settings, and the guards in force. -/
def Obligations.ReadContextAndPlan : Prop :=
  (let body (x : Subscription) (s : State) : Body :=
     .context (s.cxm.get x) (s.missed.get x)
       (if (s.cxm.get x).state = .handover then (s.hou.get x).record.map (·.phase) else none)
       ((s.hou.get x).reselect.map (·.fnS)) (s.ceu.claim == some x)
   (∀ (x : Subscription) (who : Coded Subscription) (tag : BitVec 8) (s : State),
     pendingTag x.port (.readContext who) s = some tag →
       exec (.readContext x.port who) s =
         if who = .val x.other then refusedWith x.port tag .notOwner s
         else answeredOnly x.port tag .ok (body x s) s) ∧
   (∀ (y : Subscription) (tag : BitVec 8) (s : State), pendingTag .P (.readContext (.val y)) s = some tag →
     exec (.readContext .P (.val y)) s = answeredOnly .P tag .ok (body y s) s) ∧
   (∀ (who : Coded Subscription) (tag : BitVec 8) (s : State), pendingTag .P (.readContext who) s = some tag →
     (∀ y, who ≠ .val y) → exec (.readContext .P who) s = refusedWith .P tag .badValue s)) ∧
  (∀ (start : Nat) (tag : BitVec 8) (s : State), pendingTag .P (.readPlan start) s = some tag →
     let view (e : Entry) : PlanView :=
       { handle := e.handle, owner := e.owner, origin := e.origin, kind := e.kind, priority := e.priority,
         state := e.state, start := e.start, stop := e.stop, channel := e.channel,
         dir := if e.kind = .callTx ∨ e.kind = .exchTx then .tx else .rx }
     exec (.readPlan start) s =
       if 47 < start then refusedWith .P tag .badValue s
       else answeredOnly .P tag .ok
         (.plan s.plan.length (((s.plan.drop start).take 4).map view) s.credit s.air s.guards) s)

/-- ENTER_EXCHANGE (R25, R29).
RENEW_EXCHANGE (R105): a purpose that is not given keeps the one held. -/
def Obligations.EnterAndRenewExchange : Prop :=
  (∀ (x : Subscription) (p : Option Purpose) (timer : Nat) (tag : BitVec 8) (s : State),
     pendingTag x.port (.enterExchange p timer) s = some tag →
     exec (.enterExchange x p timer) s =
       if (s.cxm.get x).state ≠ .camped ∨ (s.hou.get x).reselect.isSome = true then refusedWith x.port tag .state s
       else if p = none ∨ timer < 50 ∨ 3000 < timer then refusedWith x.port tag .badValue s
       else
         let context : Context :=
           { s.cxm.get x with state := .exchange, purpose := p,
                              exchangeDeadline := some (s.tbu.lt + BitVec.ofNat 48 (timer * 260000)) }
         let items : CeuItems := { s.ceu.items.get x with timer := some timer }
         tookEffect x.port tag .ok .empty
           { s with cxm := s.cxm.set x context, ceu := { s.ceu with items := s.ceu.items.set x items } }) ∧
  (∀ (x : Subscription) (p : Coded Purpose) (timer : Nat) (tag : BitVec 8) (s : State),
     pendingTag x.port (.renewExchange p timer) s = some tag →
     exec (.renewExchange x p timer) s =
       if (s.cxm.get x).state ≠ .exchange then refusedWith x.port tag .state s
       else if p = .unknown ∨ timer < 50 ∨ 3000 < timer then refusedWith x.port tag .badValue s
       else
         let purpose : Option Purpose := match p with
           | .val v => some v
           | _ => (s.cxm.get x).purpose
         let context : Context :=
           { s.cxm.get x with purpose := purpose,
                              exchangeDeadline := some (s.tbu.lt + BitVec.ofNat 48 (timer * 260000)) }
         let items : CeuItems := { s.ceu.items.get x with timer := some timer }
         tookEffect x.port tag .ok .empty
           { s with cxm := s.cxm.set x context, ceu := { s.ceu with items := s.ceu.items.set x items } })

/-- LEAVE_EXCHANGE and the exchange deadline (R26, R106): every EXCH entry of the subscription that is not EXECUTING is
displaced with reason EXCHANGE_END, in plan order; at the deadline EXCHANGE_EXPIRED follows, stamped with the deadline; the
context becomes CAMPED without purpose and deadline, and the timer setting absent. -/
def Obligations.ExchangeEnds : Prop :=
  ∀ (x : Subscription) (s : State),
    let leaving := s.plan.filter (fun e =>
      e.owner == x && (e.kind == .exchRx || e.kind == .exchTx) && e.state != .executing)
    let removed : State := forEntries (fun e => displaceEntry e .exchangeEnd) leaving s
    let ended (u : State) : State :=
      { u with cxm := u.cxm.set x { u.cxm.get x with state := .camped, purpose := none, exchangeDeadline := none },
               ceu := { u.ceu with items := u.ceu.items.set x { u.ceu.items.get x with timer := none } } }
    (∀ tag, pendingTag x.port .leaveExchange s = some tag →
      exec (.leaveExchange x) s =
        if (s.cxm.get x).state = .exchange then tookEffect x.port tag .ok (.removed leaving.length) (ended removed)
        else refusedWith x.port tag .state s) ∧
    (∀ d, ltRuns s = true → (s.cxm.get x).state = .exchange → (s.cxm.get x).exchangeDeadline = some d →
      ltReached s.tbu.lt d = true →
      exec (.exchangeDeadline x) s = happened (ended (giveNotice x.port
        { body := .exchangeExpired (s.cxm.get x).purpose, sub := some x, stamp := d } removed)))

/-! ### Local time (chapter 1) -/

/-- The order of two LT values is by their difference modulo 2^48: below 2^47 the first is later than or equal to the
second (R1). Of two values whose difference is not exactly 2^47 one is; for values less than 2^47 after one instant it is the
order of their distances from it.
The conversion of a frame time (R7): past from a frame distance of 2048, otherwise the local time.
The frame time that a local time is given through a record converts back to it (R15, R153). -/
def Obligations.LocalTimeAndFrameTime : Prop :=
  ((∀ a b : LT, ltReached a b = true ↔ (a - b).toNat < 2 ^ 47) ∧
   (∀ (t : LT) (n m : Nat), n < 2 ^ 47 → m < 2 ^ 47 →
     (ltReached (t + BitVec.ofNat 48 n) (t + BitVec.ofNat 48 m) = true ↔ m ≤ n))) ∧
  (∀ (b : Timebase) (t : FrameTime),
     (2048 ≤ (t.fn.toNat + 4096 - b.fnRef.toNat) % 4096 → convert b t = none) ∧
     ((t.fn.toNat + 4096 - b.fnRef.toNat) % 4096 < 2048 → t.fp < 260000 →
       ∃ l, convert b t = some l ∧
         l.toNat = (b.ltRef.toNat + (t.fn.toNat + 4096 - b.fnRef.toNat) % 4096 * 260000 + t.fp) % 2 ^ 48)) ∧
  (∀ (b : Timebase) (l : LT), -(2 ^ 28 : Int) < (l - b.ltRef).toInt → (l - b.ltRef).toInt < 2 ^ 28 →
     (frameOf b l).fp < 260000 ∧
     (b.ltRef + BitVec.ofInt 48 (((frameOf b l).fn - b.fnRef).toInt * 260000 + (frameOf b l).fp)) = l)

/-- ADJUST_TIMING (R10): taken on a cell, the delta clamped to ±2,600, 0 leaving no pending slew.
TRIM (R17, R18, R176): the word's range, then the anchor (R16); the word is set and its delivery begins; more than 64
steps from the reference trim K is suspect and a calibration waits, otherwise a calibration that has begun waits again. -/
def Obligations.AdjustTimingAndTrim : Prop :=
  (∀ (x : Subscription) (delta : Int) (tag : BitVec 8) (s : State), pendingTag x.port (.adjustTiming delta) s = some tag →
     ((s.cxm.get x).state = .camped ∨ (s.cxm.get x).state = .exchange ∨ (s.cxm.get x).state = .call →
       ∀ b, s.tbu.record.get x = some b →
       let d : Int := max (-2600) (min delta 2600)
       let record : Timebase := { b with slew := if d = 0 then none else some d }
       exec (.adjustTiming x delta) s =
         tookEffect x.port tag (if d = delta then .ok else .clamped) .empty
           { s with tbu := { s.tbu with record := s.tbu.record.set x (some record) } }) ∧
     ((s.cxm.get x).state = .absent ∨ (s.cxm.get x).state = .searching ∨ (s.cxm.get x).state = .handover ∨
         s.tbu.record.get x = none →
       exec (.adjustTiming x delta) s = refusedWith x.port tag .state s)) ∧
  (∀ (x : Subscription) (word : Nat) (tag : BitVec 8) (s : State), pendingTag x.port (.trim word) s = some tag →
     let onCell (y : Subscription) : Prop :=
       (s.cxm.get y).state = .camped ∨ (s.cxm.get y).state = .exchange ∨ (s.cxm.get y).state = .call
     let isAnchor : Prop :=
       s.ceu.claim = some x ∨ (s.ceu.claim = none ∧ onCell x ∧ (s.tbu.prefAnchor = x ∨ ¬ onCell x.other))
     let tbu : Tbu := { s.tbu with trimWord := BitVec.ofNat 13 word, delivered := false }
     let far : Prop := s.tbu.refTrim.toNat + 64 < word ∨ word + 64 < s.tbu.refTrim.toNat
     (8191 < word → exec (.trim x word) s = refusedWith x.port tag .badValue s) ∧
     (word ≤ 8191 → ¬ isAnchor → exec (.trim x word) s = refusedWith x.port tag .notAnchor s) ∧
     (word ≤ 8191 → isAnchor → far → exec (.trim x word) s = tookEffect x.port tag .ok .empty
       { s with tbu := tbu, csc := { s.csc with suspect := true, cal := .waiting, calDue := none } }) ∧
     (word ≤ 8191 → isAnchor → ¬ far → exec (.trim x word) s = tookEffect x.port tag .ok .empty
       { s with tbu := tbu, csc := { s.csc with cal := if s.csc.cal = .idle then .idle else .waiting } }))

/-- READ_TIME (R15): LT, the frame time of now through each record asked for with its pending slew, the trim word, the
anchor, and from the Application Port the preferred anchor. -/
def Obligations.ReadTimeReportsTheClocks : Prop :=
  ∀ (tag : BitVec 8) (s : State),
    let view (b : Timebase) : TimeView :=
      { frame :=
          if (s.tbu.lt - b.ltRef).toNat < 2 ^ 47 then { fn := b.fnRef, fp := (s.tbu.lt - b.ltRef).toNat }
          else { fn := b.fnRef - 1, fp := 260000 - (b.ltRef - s.tbu.lt).toNat },
        slew := b.slew }
    (∀ x : Subscription, pendingTag x.port .readTime s = some tag →
      exec (.readTime x.port) s = answeredOnly x.port tag .ok
        (.stackTime s.tbu.lt ((s.tbu.record.get x).map view) s.tbu.trimWord (anchor s)) s) ∧
    (pendingTag .P .readTime s = some tag →
      exec (.readTime .P) s = answeredOnly .P tag .ok
        (.appTime s.tbu.lt (s.tbu.record.a.map view) (s.tbu.record.b.map view) s.tbu.trimWord (anchor s)
          s.tbu.prefAnchor) s)

/-! ### The plan (chapter 3) -/

/-- An entry leaves the plan (R39): its slot is free and the slot's generation rises by 1, from 255 to 0; the others keep
their order, and no setup command that waits for it is sent (R73), also where it is EXECUTING, by the model's choice (log 47). A
handle that is not in the plan removes nothing.
A newcomer takes the lowest-numbered slot that no entry occupies, with the slot's generation (R39), and there is one
exactly while some slot is free.
The guard owed between two entries and their conflict (R43): different owners or channels owe G_retune, the same owner
and channel G_turn between directions and 0 otherwise; equal starts conflict, and otherwise the later start must not lie
before the earlier end plus the guard.
The priority of a newcomer by its kind, the contexts and the claim (R41). -/
def Obligations.SlotsConflictsAndPriorities : Prop :=
  ((∀ (h : Handle) (s : State),
      ((∀ e ∈ s.plan, e.handle ≠ h) → removeEntry h s = s) ∧
      ((∃ e ∈ s.plan, e.handle = h) →
        let rsq : Rsq := { s.rsq with waiting := s.rsq.waiting.filter (fun c => !isSetupFor h c),
                                      gap := s.rsq.gap.filter (fun g => g.handle != h) }
        removeEntry h s =
          { s with plan := s.plan.filter (fun e => e.handle != h), gens := s.gens.set h.slot (s.gens[h.slot] + 1),
                   rsq := rsq })) ∧
   (∀ s : State,
      (∀ h, nextHandle s = some h →
        h.gen = s.gens[h.slot] ∧ (∀ e ∈ s.plan, e.handle.slot ≠ h.slot) ∧
        ∀ i : Fin 48, i < h.slot → ∃ e ∈ s.plan, e.handle.slot = i) ∧
      (nextHandle s = none ↔ ∀ i : Fin 48, ∃ e ∈ s.plan, e.handle.slot = i))) ∧
  ((∀ (retune turn : Nat) (e f : Entry),
      let guard : Nat :=
        if e.owner = f.owner ∧ e.channel = f.channel then (if e.dir = f.dir then 0 else turn) else retune
      (e.start = f.start → conflicts retune turn e f = true) ∧
      (e.start ≠ f.start → ltReached f.start e.start = true →
        (conflicts retune turn e f = true ↔ ltReached f.start (e.stop + BitVec.ofNat 48 guard) = false)) ∧
      (e.start ≠ f.start → ltReached f.start e.start = false →
        (conflicts retune turn e f = true ↔ ltReached e.start (f.stop + BitVec.ofNat 48 guard) = false))) ∧
   (∀ (x : Subscription) (s : State),
      priorityOf .search x s = 0 ∧ priorityOf .measureGap x s = 1 ∧ priorityOf .listen x s = 2 ∧
      priorityOf .pageRead x s = 2 ∧ priorityOf .callRx x s = 3 ∧ priorityOf .callTx x s = 3 ∧ priorityOf .sync x s = 3 ∧
      (∀ k, k = .exchRx ∨ k = .exchTx →
        (priorityOf k x s = 3 ↔
          ((s.cxm.get x).state = .exchange ∨ ((s.cxm.get x).state = .handover ∧ (s.cxm.get x).prior = some .exchange)) ∧
          s.ceu.claim ≠ some x.other) ∧
        (priorityOf k x s = 3 ∨ priorityOf k x s = 2))))

/-- A newcomer of one member that meets nothing, starts later than now + 6,500 and finds room is admitted to the lowest free
slot, at the place of its local start, and nothing else changes (R40, R45). One that meets an EXECUTING entry of priority 2
or 3 and is not decided by tune-away is refused CONFLICT (R46); a refusal has no state of its own.
A displaced one-shot with no partner leaves the plan and gives DISPLACED with its handle, kind and reason (R47, R52). -/
def Obligations.AdmissionAndDisplacement : Prop :=
  (∀ (m : Entry) (s : State),
     ltAfter m.start (s.tbu.lt + BitVec.ofNat 48 6500) = true → s.plan.length < 48 →
     (∀ h, (∀ e ∈ s.plan, conflicts s.air.gRetune s.air.gTurn m e = false) → nextHandle s = some h →
       admitEntries false [m] s =
         .admitted [h] { s with plan := insertByStart { m with handle := h } s.plan }) ∧
     ((∃ e ∈ s.plan, conflicts s.air.gRetune s.air.gTurn m e = true ∧ e.state = .executing ∧ 2 ≤ e.priority) →
       admitEntries false [m] s = .refused m.kind .conflict)) ∧
  (∀ (e : Entry) (r : Reason) (s : State), e.origin = .oneShot → e.partner = none →
     displaceEntry e r s = giveNotice e.owner.port
       { body := .displaced { handle := e.handle, kind := e.kind, reason := some r, level := none },
         sub := some e.owner, stamp := s.tbu.lt } (removeEntry e.handle s))

/-- A newcomer of one member against one obstacle that is no call member: it is refused LATE up to now + 6,500 and TABLE_FULL
with 48 entries (R40, R45), LATE where both hold, by the model's choice for an occurrence (log 45); an ADMITTED or PREPARING
obstacle of lower priority is displaced, and the newcomer takes its place (R46, R47); an EXECUTING one of priority 0 or 1
below the newcomer's is truncated at the newcomer's start minus the guard owed, or aborted with CUT where that is not later
than now or leaves less than 1,300 ticks (R48; the OFF of a gap that is so aborted: log 41, 44); against any other it is
refused CONFLICT (R46).
A call frame that meets nothing takes two slots, and its members name each other (R49).
An eligible newcomer of the subscription without the claim that meets one call frame of the claim owner, none of it
EXECUTING, with credit left: both members leave, the credit falls by 1, CALL_YIELD goes to the claim owner with the frame
start of the CALL_RX, its pattern's next is due, and no other notice is given (R56, R62; which frame start: log 12).
A call frame of the claim owner that meets only eligible entries of the other subscription, none EXECUTING, with credit
left: it yields, the credit falls by 1, CALL_YIELD carries its frame start, and the plan is as it was (R57). -/
def Obligations.AdmissionOverObstacles : Prop :=
  (∀ (m : Entry) (s : State),
    let at_ : Bool := ltAfter m.start (s.tbu.lt + BitVec.ofNat 48 6500)
    (at_ = false → admitEntries false [m] s = .refused m.kind .late) ∧
    (at_ = true → 48 ≤ s.plan.length → admitEntries false [m] s = .refused m.kind .tableFull) ∧
    (∀ f, at_ = true → s.plan.length < 48 → m.origin ≠ .call → f.origin ≠ .call → f.partner = none →
      s.plan.filter (fun e => conflicts s.air.gRetune s.air.gTurn m e) = [f] →
      (∀ e ∈ s.plan, e.handle = f.handle → e = f) →
      let guard : Nat :=
        if m.owner = f.owner ∧ m.channel = f.channel then (if m.dir = f.dir then 0 else s.air.gTurn) else s.air.gRetune
      let stop : LT := m.start - BitVec.ofNat 48 guard
      let remains : Prop :=
        ltAfter stop s.tbu.lt = true ∧ ltReached stop (f.start + BitVec.ofNat 48 1300) = true
      let placed (h : Handle) (u : State) : Verdict :=
        .admitted [h] { u with plan := insertByStart { m with handle := h } u.plan }
      (f.state ≠ .executing → f.priority < m.priority →
        ∀ h, nextHandle (displaceEntry f .priority s) = some h →
          admitEntries false [m] s = placed h (displaceEntry f .priority s)) ∧
      (f.state = .executing → f.priority ≤ 1 → f.priority < m.priority → remains →
        ∀ h, nextHandle s = some h →
          admitEntries false [m] s = placed h { s with plan := s.plan.map (fun e =>
            if e.handle = f.handle then { e with stop := stop, cut := true } else e) }) ∧
      (f.state = .executing → f.priority ≤ 1 → f.priority < m.priority → ¬ remains →
        ∀ h, nextHandle (cutEntry f .cut s) = some h →
          admitEntries false [m] s = placed h (cutEntry f .cut s)) ∧
      (m.priority ≤ f.priority ∨ (f.state = .executing ∧ 2 ≤ f.priority) →
        admitEntries false [m] s = .refused m.kind .conflict))) ∧
  (∀ (m n : Entry) (h g : Handle) (s : State),
    ltAfter m.start (s.tbu.lt + BitVec.ofNat 48 6500) = true → ltAfter n.start (s.tbu.lt + BitVec.ofNat 48 6500) = true →
    s.plan.length + 2 ≤ 48 → nextHandle s = some h →
    nextHandle { s with plan := insertByStart { m with handle := h } s.plan } = some g →
    (∀ e ∈ s.plan, conflicts s.air.gRetune s.air.gTurn m e = false ∧ conflicts s.air.gRetune s.air.gTurn n e = false) →
    ∃ plan : List Entry, admitEntries false [m, n] s = .admitted [h, g] { s with plan := plan } ∧ h.slot ≠ g.slot ∧
      plan.length = s.plan.length + 2 ∧ { m with handle := h, partner := some g } ∈ plan ∧
      { n with handle := g, partner := some h } ∈ plan ∧ ∀ e ∈ s.plan, e ∈ plan) ∧
  (∀ (m e f : Entry) (y : Subscription) (st : LT) (s : State),
    ltAfter m.start (s.tbu.lt + BitVec.ofNat 48 6500) = true → s.plan.length < 48 → s.ceu.claim = some y →
    m.owner = y.other → m.kind = .listen ∨ m.kind = .pageRead ∨ m.kind = .exchRx ∨ m.kind = .exchTx →
    e ∈ s.plan → f ∈ s.plan → slotsDistinct s.plan = true → e.owner = y → f.owner = y → e.origin = .call →
    f.origin = .call → e.kind = .callRx → f.kind = .callTx → e.partner = some f.handle → f.partner = some e.handle →
    e.state ≠ .executing → f.state ≠ .executing →
    (conflicts s.air.gRetune s.air.gTurn m e = true ∨ conflicts s.air.gRetune s.air.gTurn m f = true) →
    (∀ k ∈ s.plan, conflicts s.air.gRetune s.air.gTurn m k = true → k = e ∨ k = f) → 1 ≤ s.credit.credit →
    (patternOf y .call s).pending = .inPlan [e.handle, f.handle] st none →
    ∃ (h : Handle) (t : State), admitEntries false [m] s = .admitted [h] t ∧
      t.plan = insertByStart { m with handle := h }
        (s.plan.filter (fun k => k.handle != e.handle && k.handle != f.handle)) ∧
      t.credit = { s.credit with credit := s.credit.credit - 1 } ∧
      t.queues = s.queues.upd y.port (fun n => n.push
        { body := .callYield (e.frame.getD { fn := 0, fp := 0 }), sub := some y, stamp := s.tbu.lt }) ∧
      patternOf y .call t = { patternOf y .call s with pending := .due st } ∧ t.missed = s.missed) ∧
  (∀ (m : Entry) (ms : List Entry) (y : Subscription) (start : LT) (s : State),
    newcomerStart (m :: ms) = some start → ltAfter start (s.tbu.lt + BitVec.ofNat 48 6500) = true →
    s.plan.length + (ms.length + 1) ≤ 48 → s.ceu.claim = some y → (∀ k ∈ m :: ms, k.owner = y ∧ k.origin = .call) →
    slotsDistinct s.plan = true → 1 ≤ s.credit.credit →
    let obstacle (e : Entry) : Prop := ∃ k ∈ m :: ms, conflicts s.air.gRetune s.air.gTurn k e = true
    (∃ e ∈ s.plan, obstacle e) →
    (∀ e ∈ s.plan, obstacle e → e.owner = y.other ∧ e.origin ≠ .call ∧ e.state ≠ .executing ∧
      (e.kind = .listen ∨ e.kind = .pageRead ∨ e.kind = .exchRx ∨ e.kind = .exchTx)) →
    admitEntries false (m :: ms) s = .yielded (giveNotice y.port
      { body := .callYield (m.frame.getD { fn := 0, fp := 0 }), sub := some y, stamp := s.tbu.lt }
      { s with credit := { s.credit with credit := s.credit.credit - 1 } }))

/-- RESERVE's tests in the order of R50 and what admission answers, with the answer's handle and local start.
The start tests of R8, in their order, for both forms. That byte 7 of the frame form is ignored is the model's choice
(log 25).
A RESERVE of SEARCH, EXCH_RX or EXCH_TX, from an LT start or a frame start, that passes the tests and meets nothing is
admitted, in every context state its kind allows (R45, R50): its completion, on hypotheses on the state and the request alone. -/
def Obligations.ReserveTestsInOrder : Prop :=
  (∀ (x : Subscription) (b : ReserveBody) (tag : BitVec 8) (s : State), pendingTag x.port (.reserve b) s = some tag →
     (b.kind ≠ some .search → b.kind ≠ some .exchRx → b.kind ≠ some .exchTx →
       exec (.reserve x b) s = refusedWith x.port tag .badValue s) ∧
     (∀ k, b.kind = some k → k = .search ∨ k = .exchRx ∨ k = .exchTx →
       let c := s.cxm.get x
       let allowed : Bool :=
         if k = .search then c.state == .searching || c.state == .camped || c.state == .exchange || c.state == .call
         else c.state == .exchange || (c.state == .handover && c.prior == some .exchange)
       let level : Int := max (-40) (min b.txLevel.toInt 24)
       exec (.reserve x b) s =
         if allowed = false then refusedWith x.port tag .state s
         else if k = .search ∧ s.csc.thrift = true then refusedWith x.port tag .thrift s
         else if b.length.toNat < 1300 ∨ 520000 < b.length.toNat ∨ 4095 < b.channel.toNat then
           refusedWith x.port tag .badValue s
         else match startTest b (s.tbu.record.get x) s.tbu.lt with
           | .refuse st => refusedWith x.port tag st s
           | .at start frame =>
             if 20 ≤ oneShotCount x s then refusedWith x.port tag .quota s
             else if 48 ≤ s.plan.length then refusedWith x.port tag .tableFull s
             else
               let e : Entry :=
                 { handle := noHandle, owner := x, origin := .oneShot, kind := k, priority := priorityOf k x s,
                   frame := frame, start := start, stop := start + BitVec.ofNat 48 b.length.toNat,
                   channel := b.channel.toNat, txLevel := if k = .exchTx then some level else none, index := none,
                   measureList := none, partner := none, state := .admitted, cut := false }
               match admitEntries false [e] s with
               | .admitted (h :: _) t =>
                 tookEffect x.port tag (if k = .exchTx ∧ level ≠ b.txLevel.toInt then .clamped else .ok)
                   (.reserved h start) t
               | .refused _ .late => refusedWith x.port tag .late s
               | .admitted [] _ => refusedWith x.port tag .tableFull s
               | .refused _ .tableFull => refusedWith x.port tag .tableFull s
               | _ => refusedWith x.port tag .conflict s)) ∧
  (∀ (b : ReserveBody) (record : Option Timebase) (nw : LT),
     (b.form ≠ 0 → b.form ≠ 1 → startTest b record nw = .refuse .badValue) ∧
     (b.form = 1 →
       let ahead := (b.start - nw).toNat
       startTest b record nw =
         if 2 ^ 47 ≤ ahead then .refuse .late else if 266240000 < ahead then .refuse .tooFar
         else if ahead ≤ 6500 then .refuse .late else .at b.start none) ∧
     (b.form = 0 →
       let fn := b.start.toNat / 2 ^ 32
       let fp := b.start.toNat / 2 ^ 8 % 2 ^ 24
       (4095 < fn ∨ 260000 ≤ fp → startTest b record nw = .refuse .badValue) ∧
       (fn ≤ 4095 → fp < 260000 → record = none → startTest b record nw = .refuse .state) ∧
       (∀ r, fn ≤ 4095 → fp < 260000 → record = some r →
         let d := (fn + 4096 - r.fnRef.toNat) % 4096
         let start := r.ltRef + BitVec.ofNat 48 (d * 260000 + fp)
         startTest b record nw =
           if 2048 ≤ d then .refuse .late else if 1024 < d then .refuse .tooFar
           else if ltAfter start (nw + BitVec.ofNat 48 6500) = false then .refuse .late
           else .at start (some { fn := BitVec.ofNat 12 fn, fp := fp })))) ∧
  (∀ (x : Subscription) (b : ReserveBody) (k : Kind) (start : LT) (frame : Option FrameTime) (tag : BitVec 8) (h : Handle)
    (s : State),
    pendingTag x.port (.reserve b) s = some tag → b.kind = some k →
    let c := s.cxm.get x
    (k = .search → (c.state = .searching ∨ c.state = .camped ∨ c.state = .exchange ∨ c.state = .call) ∧
      s.csc.thrift = false) →
    (k ≠ .search → (k = .exchRx ∨ k = .exchTx) ∧
      (c.state = .exchange ∨ (c.state = .handover ∧ c.prior = some .exchange))) →
    1300 ≤ b.length.toNat → b.length.toNat ≤ 520000 → b.channel.toNat ≤ 4095 →
    startTest b (s.tbu.record.get x) s.tbu.lt = .at start frame → oneShotCount x s < 20 → s.plan.length < 48 →
    nextHandle s = some h →
    let level : Int := max (-40) (min b.txLevel.toInt 24)
    let e : Entry :=
      { handle := h, owner := x, origin := .oneShot, kind := k, priority := priorityOf k x s, frame := frame,
        start := start, stop := start + BitVec.ofNat 48 b.length.toNat, channel := b.channel.toNat,
        txLevel := if k = .exchTx then some level else none, index := none, measureList := none, partner := none,
        state := .admitted, cut := false }
    (∀ f ∈ s.plan, conflicts s.air.gRetune s.air.gTurn e f = false) →
    exec (.reserve x b) s =
      tookEffect x.port tag (if k = .exchTx ∧ level ≠ b.txLevel.toInt then .clamped else .ok) (.reserved h start)
        { s with plan := insertByStart e s.plan })

/-- CANCEL (R51): the slot, the handle, the owner and the origin tested in order; an entry not yet EXECUTING leaves with no
notice; one EXECUTING leaves at once with OFF, and its CANCELLED waits for the window's outcome, among the ended windows, a
TX window too by the model's reading (log 10); a TUNE or ON of it that still waits for the link is not sent, by the model's
choice (R77; log 47). -/
def Obligations.CancelEndsTheOneShot : Prop :=
  ∀ (x : Subscription) (slot gen : BitVec 8) (tag : BitVec 8) (s : State),
    pendingTag x.port (.cancel slot gen) s = some tag →
    (48 ≤ slot.toNat → exec (.cancel x slot gen) s = refusedWith x.port tag .badValue s) ∧
    (slot.toNat < 48 → (∀ e ∈ s.plan, ¬ (e.handle.slot.val = slot.toNat ∧ e.handle.gen = gen)) →
      exec (.cancel x slot gen) s = refusedWith x.port tag .staleHandle s) ∧
    (∀ e, slot.toNat < 48 →
      s.plan.find? (fun f => f.handle.slot.val == slot.toNat && f.handle.gen == gen) = some e →
      exec (.cancel x slot gen) s =
        if e.owner ≠ x ∨ e.origin ≠ .oneShot then refusedWith x.port tag .notOwner s
        else if e.state = .executing then
          let w : EndedWindow := { entry := e, cause := .cancelled, stamp := s.tbu.lt, awaiting := 0 }
          tookEffect x.port tag .ok .empty (demand (.off (.ended e.handle)) (addEnded w (removeEntry e.handle s)))
        else tookEffect x.port tag .ok .empty (removeEntry e.handle s))

/-- Materialisation (R60): of an active pattern with its configuration, timebase and serving cell, the first candidate frame
after the last frame, and not before a named first frame, whose occurrence starts later than now + 6,500 is offered, with no
candidate left, of those the model looks at (log 18), nothing is pending; a staged paging configuration becomes active then
(R88), and a call frame's earlier member is the one tested. Offering makes its frame the last one, and the pending
occurrence the admitted one, or the lost one with its would-be start and end, its turn over where that end is reached
already (R2, R61; log 29), with PATTERN_LOST or PAGE_MISSED where it was refused. An admitted LISTEN has its listen record
written (R85), beside those of LISTENs not yet judged, by the model's reading (log 9).
An activation materialises with no last frame (R59); an inactive pattern has nothing pending. An inactivation takes
the members that are not EXECUTING out of the plan with no notice (R21, R59). A re-materialisation leaves a pending
occurrence that is PREPARING or EXECUTING, and otherwise removes it and materialises with no last frame (R63); that it does
so too for a call frame of which one member has run and gone is the model's reading (log 35). A pattern that gives up its
occurrence lets the members whose outcome is still to come run on with the loss held, and with none left tells that loss
(R49; log 28); a lost occurrence is withdrawn (R59).
A call frame (R111): with its members no longer apart by the set G_turn it is not offered and is lost with reason CONFLICT,
of kind CALL_RX; admitted, its two members are the pending occurrence from the earlier start on; refused, it is lost with
PATTERN_LOST of the member concerned (which: log 12); given up by tune-away, it is lost with the CALL_YIELD of its admission
alone (R57). Among the patterns whose next occurrence is due the one with the earliest start is first, the first in its list
where two are equal (R62). -/
def Obligations.MaterialisationAndTurns : Prop :=
  (∀ (x : Subscription) (b : Timebase) (cell : Cell) (s : State), s.tbu.record.get x = some b →
    (s.cxm.get x).serving = some cell →
    let late (l : LT) : Bool := ltAfter l (s.tbu.lt + BitVec.ofNat 48 6500)
    let allowed (p : Pattern) (f : FN) : Bool :=
      (match p.lastFrame with
       | some l => decide (0 < (f - l).toNat ∧ (f - l).toNat < 2048)
       | none => true) &&
      (match p.firstFrame with
       | some l => decide ((f - l).toNat < 2048)
       | none => true)
    let none_ (k : Pat) (u : State) : State := updPattern x k (fun p => { p with pending := .none }) u
    (∀ c, (patternOf x .page s).active = true →
      (match (s.pgu.get x).staged with
       | some v => some v
       | none => (s.pgu.get x).active) = some c →
      let t : State := { s with pgu := s.pgu.set x { s.pgu.get x with active := some c, staged := none } }
      let found := (pageCandidates c b.fnRef).find? (fun f => allowed (patternOf x .page s) f &&
        (match convert b { fn := f, fp := c.listenFp } with
         | some l => late l
         | none => false))
      (found = none → materialise x .page s = none_ .page t) ∧
      (∀ f l, found = some f → convert b { fn := f, fp := c.listenFp } = some l →
        let e : Entry :=
          { handle := noHandle, owner := x, origin := .page, kind := .listen, priority := 2,
            frame := some { fn := f, fp := c.listenFp }, start := l, stop := l + BitVec.ofNat 48 c.listenLen,
            channel := cell.channel, txLevel := none, index := some c.index, measureList := none, partner := none,
            state := .admitted, cut := false }
        materialise x .page s = offer x .page f [e] t)) ∧
    (∀ c, (patternOf x .meas s).active = true → (s.msu.get x).config = some c →
      let found := (gapCandidates (gapPeriod s.csc.thrift c.period) (patternOf x .meas s).lastFrame b.fnRef).find?
        (fun f => allowed (patternOf x .meas s) f &&
          (match convert b { fn := f, fp := c.fp } with
           | some l => late l
           | none => false))
      (found = none → materialise x .meas s = none_ .meas s) ∧
      (∀ f l, found = some f → convert b { fn := f, fp := c.fp } = some l →
        let e : Entry :=
          { handle := noHandle, owner := x, origin := .meas, kind := .measureGap, priority := 1,
            frame := some { fn := f, fp := c.fp }, start := l, stop := l + BitVec.ofNat 48 c.length,
            channel := cell.channel, txLevel := none, index := none, measureList := none, partner := none,
            state := .admitted, cut := false }
        materialise x .meas s = offer x .meas f [e] s)) ∧
    (∀ c, (patternOf x .call s).active = true → (s.ceu.items.get x).active = some c →
      let resumed (f : FN) : Bool :=
        match (s.ceu.items.get x).resume with
        | some l => decide ((f - l).toNat < 2048)
        | none => true
      let found := (callCandidates c b.fnRef).find? (fun f => allowed (patternOf x .call s) f && resumed f &&
        (match convert b { fn := f, fp := c.rxFp }, convert b { fn := f, fp := c.txFp } with
         | some l, some m => if ltReached m l = true then late l else late m
         | _, _ => false))
      (found = none → materialise x .call s = none_ .call s) ∧
      (∀ f l m, found = some f → convert b { fn := f, fp := c.rxFp } = some l →
        convert b { fn := f, fp := c.txFp } = some m →
        let rx : Entry :=
          { handle := noHandle, owner := x, origin := .call, kind := .callRx, priority := 3,
            frame := some { fn := f, fp := c.rxFp }, start := l, stop := l + BitVec.ofNat 48 c.rxLen,
            channel := cell.channel, txLevel := none, index := none, measureList := none, partner := none,
            state := .admitted, cut := false }
        let tx : Entry :=
          { rx with kind := .callTx, frame := some { fn := f, fp := c.txFp }, start := m,
                    stop := m + BitVec.ofNat 48 c.txLen, txLevel := some (max (-40) (min c.txLevel 24)) }
        materialise x .call s = offerCall x c f [rx, tx] s))) ∧
  (∀ (x : Subscription) (k : Pat) (f : FN) (m : Entry) (s : State),
    let t := updPattern x k (fun p => { p with pending := .none, lastFrame := some f, firstFrame := none }) s
    let lost (u : State) : State := updPattern x k (fun p =>
      { p with pending := if ltReached u.tbu.lt m.stop = true then .due m.start else .lost m.start m.stop }) u
    (∀ h u, k ≠ .page → admitEntries false [m] t = .admitted [h] u →
      offer x k f [m] s = updPattern x k (fun p => { p with pending := .inPlan [h] m.start none }) u) ∧
    (∀ h u c, k = .page → admitEntries false [m] t = .admitted [h] u → (u.pgu.get x).active = some c →
      offer x k f [m] s =
        let v := updPattern x k (fun p => { p with pending := .inPlan [h] m.start none }) u
        let r : ListenRecord := { handle := h, frame := f, config := c, epoch := (u.pgu.get x).epoch }
        { v with pgu := v.pgu.set x { u.pgu.get x with
            listens := r :: (u.pgu.get x).listens.filter (fun q => q.handle != h) } }) ∧
    (∀ r, admitEntries false [m] t = .refused m.kind r → offer x k f [m] s = lost
      (if k = .page then pageMissed x m.kind (m.frame.getD { fn := 0, fp := 0 }).fn r t
       else giveNotice x.port
        { body := .patternLost { kind := m.kind, frame := m.frame.getD { fn := 0, fp := 0 }, reason := r },
          sub := some x, stamp := t.tbu.lt } t)) ∧
    (∀ u, admitEntries false [m] t = .yielded u → offer x k f [m] s = lost u)) ∧
  (∀ (x : Subscription) (p : CallPattern) (f : FN) (rx tx : Entry) (s : State), rx.kind = .callRx → tx.kind = .callTx →
    let apart : Prop :=
      (p.rxFp ≤ p.txFp → p.rxFp + p.rxLen + s.air.gTurn ≤ p.txFp) ∧
      (p.txFp < p.rxFp → p.txFp + p.txLen + s.air.gTurn ≤ p.rxFp)
    let t := updPattern x .call (fun q => { q with pending := .none, lastFrame := some f, firstFrame := none }) s
    let start : LT := if ltReached tx.start rx.start = true then rx.start else tx.start
    let stop : LT := if ltReached rx.stop tx.stop = true then rx.stop else tx.stop
    let lost (u : State) : State := updPattern x .call (fun q =>
      { q with pending := if ltReached u.tbu.lt stop = true then .due start else .lost start stop }) u
    let told (k : Kind) (r : Reason) : State := giveNotice x.port
      { body := .patternLost
          { kind := k, frame := (if k = .callTx then tx else rx).frame.getD { fn := 0, fp := 0 }, reason := r },
        sub := some x, stamp := s.tbu.lt } t
    (¬ apart → offerCall x p f [rx, tx] s = lost (told .callRx .conflict)) ∧
    (apart →
      (∀ hs u, admitEntries false [rx, tx] t = .admitted hs u → offerCall x p f [rx, tx] s =
        updPattern x .call (fun q => { q with pending := .inPlan hs start none }) u) ∧
      (∀ k r, admitEntries false [rx, tx] t = .refused k r →
        (k = .callRx ∨ k = .callTx) ∧ offerCall x p f [rx, tx] s = lost (told k r)) ∧
      (∀ u, admitEntries false [rx, tx] t = .yielded u → offerCall x p f [rx, tx] s = lost u))) ∧
  (∀ (x : Subscription) (k : Pat) (s : State),
    let reset (a : Bool) (l : Option FN) : State :=
      updPattern x k (fun _ => { active := a, pending := .none, lastFrame := none, firstFrame := l }) s
    let leaves (ms : List Handle) (l : Option LossDetail) (t : State) (toCome : Handle → Bool) : Prop :=
      let stays := ms.filter toCome
      (stays ≠ [] → t.queues = s.queues ∧
        (t.patterns.get x).runOn = (s.patterns.get x).runOn ++ [{ members := stays, loss := l }]) ∧
      (stays = [] → (t.patterns.get x).runOn = (s.patterns.get x).runOn ∧ t.queues =
        match l with
        | some d => s.queues.upd x.port (fun n => n.push { body := .patternLost d, sub := some x, stamp := s.tbu.lt })
        | none => s.queues)
    ((patternOf x k s).active = false →
      materialise x k s = updPattern x k (fun p => { p with pending := .none }) s) ∧
    (hasConfig x k s = true → activate x k s = materialise x k (reset true none)) ∧
    (hasConfig x k s = false → activate x k s = s) ∧
    (∀ ms st l, (patternOf x k s).pending = .inPlan ms st l →
      let t := deactivate x k s
      patternOf x k t = { active := false, pending := .none, lastFrame := none, firstFrame := none } ∧
      t.plan = s.plan.filter (fun e => !s.plan.any (fun f =>
        ms.contains f.handle && f.state != .executing && f.handle == e.handle)) ∧
      t.missed = s.missed ∧ t.credit = s.credit ∧
      leaves ms l t (fun h => t.plan.any (fun e => e.handle == h) || s.rsq.ended.any (fun w => w.entry.handle == h))) ∧
    (∀ st en, (patternOf x k s).pending = .lost st en → deactivate x k s = reset false none) ∧
    (∀ (first : Option FN), (patternOf x k s).active = true →
      ((∃ ms st l, (patternOf x k s).pending = .inPlan ms st l ∧ ∃ e ∈ s.plan, e.handle ∈ ms ∧ e.state ≠ .admitted) →
        rematerialise x k first s = updPattern x k (fun p => { p with lastFrame := none, firstFrame := first }) s) ∧
      (∀ ms st l, (patternOf x k s).pending = .inPlan ms st l → (∀ e ∈ s.plan, e.handle ∈ ms → e.state = .admitted) →
        ∃ u : State, rematerialise x k first s = materialise x k u ∧
          u.plan = s.plan.filter (fun e => !ms.contains e.handle) ∧ u.missed = s.missed ∧
          leaves ms l u (fun h => s.rsq.ended.any (fun w => w.entry.handle == h)) ∧
          patternOf x k u = { active := true, pending := .none, lastFrame := none, firstFrame := first }) ∧
      ((∀ ms st l, (patternOf x k s).pending ≠ .inPlan ms st l) →
        rematerialise x k first s = materialise x k (reset true first)))) ∧
  (∀ (b : LT) (l : List (Subscription × Pat × LT)) (d : Subscription × Pat × LT),
    (∀ e ∈ l, (e.2.2 - b).toNat < 2 ^ 47) → firstDue l = some d →
    ∃ before after : List (Subscription × Pat × LT), l = before ++ d :: after ∧
      (∀ e ∈ before, (d.2.2 - b).toNat < (e.2.2 - b).toNat) ∧ (∀ e ∈ after, (d.2.2 - b).toNat ≤ (e.2.2 - b).toNat))

/-- The thrift test (R53, R182): thrift is wanted by its flag or a filtered battery state other than NORMAL. At its beginning
every SEARCH leaves the plan: one not EXECUTING with DISPLACED, an EXECUTING one with OFF and ABORTED, both with reason
THRIFT, and nothing else leaves; otherwise the flag alone changes. That they leave, and are told, in plan order is the model's
choice: R53 gives no order (log 42).
The guard test (R44): a set value not above the one in force comes into force at once, a raised one where every pair of the
plan keeps it. -/
def Obligations.ThriftAndGuards : Prop :=
  (∀ s : State,
    let wanted : Bool := s.csc.thriftFlag || s.csc.filtered != .normal
    let flagged : State := { s with csc := { s.csc with thrift := wanted } }
    let told (e : Entry) : Notice :=
      let d : WindowDetail := { handle := e.handle, kind := .search, reason := some .thrift, level := none }
      { body := if e.state = .executing then .aborted d else .displaced d, sub := some e.owner, stamp := s.tbu.lt }
    (wanted = false ∨ s.csc.thrift = true → thriftTest s = flagged) ∧
    (wanted = true → s.csc.thrift = false → slotsDistinct s.plan = true →
      (∀ e ∈ s.plan, e.kind = .search → e.origin = .oneShot ∧ e.partner = none) →
      let t := thriftTest s
      t.plan = s.plan.filter (fun e => e.kind != .search) ∧ t.csc = flagged.csc ∧
      t.queues = (s.plan.filter (fun e => e.kind == .search)).foldl
        (fun q e => q.upd e.owner.port (fun n => n.push (told e))) s.queues ∧
      ((∃ e ∈ s.plan, e.kind = .search ∧ e.state = .executing) → s.rsq.link = .up → Cmd.off .none ∈ t.rsq.waiting) ∧
      t.patterns = s.patterns ∧ t.cxm = s.cxm ∧ t.ceu = s.ceu ∧ t.credit = s.credit ∧ t.missed = s.missed ∧
      t.tbu = s.tbu)) ∧
  (∀ s : State,
    let keeps (retune turn : Nat) : Prop := s.plan.Pairwise (fun e f => conflicts retune turn e f = false)
    let t := guardTest s
    t = { s with guards := t.guards } ∧
    (s.air.gRetune ≤ s.guards.retune ∨ keeps s.air.gRetune s.guards.turn → t.guards.retune = s.air.gRetune) ∧
    (s.guards.retune < s.air.gRetune → ¬ keeps s.air.gRetune s.guards.turn → t.guards.retune = s.guards.retune) ∧
    (s.air.gTurn ≤ s.guards.turn ∨ keeps t.guards.retune s.air.gTurn → t.guards.turn = s.air.gTurn) ∧
    (s.guards.turn < s.air.gTurn → ¬ keeps t.guards.retune s.air.gTurn → t.guards.turn = s.guards.turn))

/-- The listen frames offered are those with FN mod C = P in order from the current frame, C frames apart; the call frames
are the marked ones from the current frame on; gap frames follow the last by multiples of the period, or start at the
current frame (R90, R110, R126). How many of them the model looks at, 64, 128, 32 and 8, is its own choice, each
beyond the reach R60 gives (log 18). -/
def Obligations.CandidateFrames : Prop :=
  (∀ (c : PagingConfig) (fnRef : FN), c.cycle = 32 ∨ c.cycle = 64 ∨ c.cycle = 128 ∨ c.cycle = 256 → c.frame < c.cycle →
    ∃ first : FN, (first - fnRef).toNat < c.cycle ∧ first.toNat % c.cycle = c.frame ∧
      pageCandidates c fnRef = (List.range 64).map (fun k => first + BitVec.ofNat 12 (k * c.cycle))) ∧
  (∀ (p : CallPattern) (fnRef : FN),
    callCandidates p fnRef = ((List.range 128).map (fun k => fnRef + BitVec.ofNat 12 k)).filter
      (fun f => p.marks.getLsbD (f.toNat % 8))) ∧
  (∀ (period : Nat) (l fnRef : FN),
    gapCandidates period (some l) fnRef = (List.range 32).map (fun k => l + BitVec.ofNat 12 ((k + 1) * period))) ∧
  (∀ (period : Nat) (fnRef : FN),
    gapCandidates period none fnRef = (List.range 8).map (fun k => fnRef + BitVec.ofNat 12 k))

/-! ### Paging (chapter 5) -/

/-- STAGE_PAGING (R86, R87): the ranges and cross-tests; staged, and active at once where PAGE is called for and nothing is
active.
PAGE_RESULT (R98, R99): refused without an open result window; the window is used up, and CALL or TEXT gives INCOMING to
the Application Port with the window's read frame and level. -/
def Obligations.PagingRequests : Prop :=
  (∀ (x : Subscription) (c : PagingConfig) (tag : BitVec 8) (s : State), pendingTag x.port (.stagePaging c) s = some tag →
     let inRange : Prop :=
       (c.cycle = 32 ∨ c.cycle = 64 ∨ c.cycle = 128 ∨ c.cycle = 256) ∧ c.frame < c.cycle ∧ c.listenFp < 260000 ∧
       1300 ≤ c.listenLen ∧ c.listenLen ≤ 52000 ∧ c.index ≤ 255 ∧ c.tA ≤ 255 ∧ c.tP ≤ 255 ∧ 1 ≤ c.readOffset ∧
       c.readOffset ≤ 8 ∧ c.readFp < 260000 ∧ 13000 ≤ c.readLen ∧ c.readLen ≤ 260000
     let crossTests : Prop :=
       c.tA < c.tP ∧ c.listenFp + c.listenLen ≤ 260000 ∧
       c.listenFp + c.listenLen + 13000 ≤ c.readOffset * 260000 + c.readFp
     let t : State := { s with pgu := s.pgu.set x { s.pgu.get x with staged := some c } }
     ((s.cxm.get x).state = .absent → exec (.stagePaging x c) s = refusedWith x.port tag .state s) ∧
     ((s.cxm.get x).state ≠ .absent → ¬ (inRange ∧ crossTests) →
       exec (.stagePaging x c) s = refusedWith x.port tag .badValue s) ∧
     ((s.cxm.get x).state ≠ .absent → inRange → crossTests →
       exec (.stagePaging x c) s = tookEffect x.port tag .ok .empty
         (if pageCalled x s = true ∧ (s.pgu.get x).active = none then activate x .page t else t))) ∧
  (∀ (x : Subscription) (r : Option PageOutcome) (tag : BitVec 8) (s : State),
     pendingTag x.port (.pageResult r) s = some tag →
     ((s.cxm.get x).state = .absent ∨ (s.cxm.get x).state = .searching →
       exec (.pageResult x r) s = refusedWith x.port tag .state s) ∧
     ((s.cxm.get x).state ≠ .absent → (s.cxm.get x).state ≠ .searching →
       exec (.pageResult x r) s =
         if r = none then refusedWith x.port tag .badValue s
         else match (s.pgu.get x).window with
           | none => refusedWith x.port tag .state s
           | some w =>
             let t : State := { s with pgu := s.pgu.set x { s.pgu.get x with window := none } }
             let incoming (k : IncomingKind) : State :=
               giveNotice .P { body := .incoming k w.readFrame w.level, sub := some x, stamp := s.tbu.lt } t
             tookEffect x.port tag .ok .empty
               (if r = some .call then incoming .call else if r = some .text then incoming .text else t)))

/-- The outcome of an ended window (R54, R62, R75, R78). A one-shot's is told with the level of an RX report and the window's
own stamp (R52). A LISTEN's report gives a serving sample where its channel is the serving cell's (R138) and is judged, and
its turn ends; a PAGE_READ's gives READ_DONE with its read frame, opens the result window of that frame and level at age 0,
and discards the read record (R96); a CALL_RX's gives a serving sample; a gap's outcome drops its selection, which the model
keeps until that outcome is handed on where R136 has it none when the gap leaves the plan (log 8); a SYNC's report is told
by SYNC_DONE (R150). With its turn's last member an occurrence's loss is told, if there was one, and the next is due (R49,
R62); of two members lost in turn the first loss is the one told by the model's choice (log 34). An occurrence that its
pattern no longer waits for tells its own loss with its last member, by the model's reading (log 28), and one that has been
told by CALL_YIELD brings nothing, by its choice (log 31).
The loss of a window: a LISTEN completes with an absent report, a one-shot, a cancelled one too by the model's reading
(log 10), is ABORTED with reason RADIO and the window's stamp, any other loss is told to its owner (R79). -/
def Obligations.OutcomeOfAWindow : Prop :=
  (∀ (x : Subscription) (ch : Nat) (level : Int) (s : State),
    let c := s.cxm.get x
    let l : Int :=
      match c.level with
      | some v => v + (level - v).tdiv (2 ^ (s.msu.get x).settings.k)
      | none => level
    (∀ k, c.serving = some k → k.channel = ch →
      servingSample x ch level s = { s with cxm := s.cxm.set x { c with level := some l } }) ∧
    ((∀ k, c.serving = some k → k.channel ≠ ch) → servingSample x ch level s = s)) ∧
  (∀ (w : EndedWindow) (rep : Option (Int × Int)) (s : State),
    let e := w.entry
    let x := e.owner
    let sampled : State :=
      match rep with
      | some (l, _) => servingSample x e.channel l s
      | none => s
    let tell (at_ : LT) (b : NoticeBody) (u : State) : State := giveNotice x.port { body := b, sub := some x, stamp := at_ } u
    (e.origin = .oneShot →
      let d : WindowDetail :=
        { handle := e.handle, kind := e.kind, reason := none, level := if e.kind = .exchTx ∨ e.kind = .callTx then none
                                                                       else rep.map (·.1) }
      handOn w rep s = tell w.stamp (match w.cause with
        | .done => .done d
        | .truncated => .truncated d
        | .cancelled => .cancelled d) s) ∧
    (e.origin = .page →
      handOn w rep s = memberGone x .page e.handle none (judgeListen e (rep.map (·.2)) sampled)) ∧
    (∀ l m r, e.origin = .pageRead → rep = some (l, m) → (s.pgu.get x).read = some r → r.handle = e.handle →
      handOn w rep s = tell s.tbu.lt (.readDone l r.readFrame)
        { s with pgu := s.pgu.set x { s.pgu.get x with
            read := none, window := some { readFrame := r.readFrame, level := l, age := 0 } } }) ∧
    (e.origin = .call →
      handOn w rep s = memberGone x .call e.handle none (if e.kind = .callRx then sampled else s)) ∧
    (e.origin = .meas → handOn w rep s = memberGone x .meas e.handle none
      { s with selection := s.selection.set x ((s.selection.get x).filter (fun r => r.handle != e.handle)) }) ∧
    (∀ l m, e.origin = .sync → rep = some (l, m) → handOn w rep s = tell s.tbu.lt (.syncCompleted l) s) ∧
    (e.origin = .page → failEnded w s = handOn w none s) ∧
    (e.origin = .oneShot → failEnded w s =
      tell w.stamp (.aborted { handle := e.handle, kind := e.kind, reason := some .radio, level := none }) s) ∧
    (e.origin ≠ .page → e.origin ≠ .oneShot → failEnded w s = tellLost e .aborted .radio s)) ∧
  (∀ (x : Subscription) (k : Pat) (h : Handle) (loss : Option LossDetail) (s : State),
    let first (held : Option LossDetail) : Option LossDetail :=
      match held with
      | some d => some d
      | none => loss
    let told (held : Option LossDetail) (u : State) : State :=
      match first held with
      | some d => giveNotice x.port { body := .patternLost d, sub := some x, stamp := s.tbu.lt } u
      | none => u
    (∀ st held, (patternOf x k s).pending = .inPlan [h] st held →
      memberGone x k h loss s = updPattern x k (fun p => { p with pending := .due st }) (told held s)) ∧
    (∀ g st held, (patternOf x k s).pending = .inPlan [h, g] st held ∨ (patternOf x k s).pending = .inPlan [g, h] st held →
      g ≠ h → memberGone x k h loss s =
        updPattern x k (fun p => { p with pending := .inPlan [g] st (first held) }) s) ∧
    ((∀ ms st held, (patternOf x k s).pending = .inPlan ms st held → h ∉ ms) →
      let on (l : List RunOn) : State := { s with patterns := s.patterns.upd x (fun p => { p with runOn := l }) }
      let l := (s.patterns.get x).runOn
      let others := l.filter (fun r => !r.members.contains h)
      ((∀ r ∈ l, h ∉ r.members) → memberGone x k h loss s = s) ∧
      (∀ held, l.find? (fun r => r.members.contains h) = some { members := [h], loss := held } →
        memberGone x k h loss s = told held (on others)) ∧
      (∀ g ms held, ms = [h, g] ∨ ms = [g, h] → g ≠ h →
        l.find? (fun r => r.members.contains h) = some { members := ms, loss := held } →
        memberGone x k h loss s = on (others ++ [{ members := [g], loss := first held }]))))

/-- A result of a gap's window (R135, R137, R139, R141): with a selection that is not void, at its next window, the listed
record is filtered and judged; CANDIDATE is given where REPORTED became set, with the record's level and the serving level; the
report record goes to the FILLING bank, or sets its overflow flag where it holds 8; the switch test follows; the pointer moves
to the next listed record, or after the last to the stop position, with its round. A result of a void selection, of another gap
or window, or with no selection is discarded. -/
def Obligations.NeighbourResultIsTaken : Prop :=
  ∀ (x : Subscription) (h : Handle) (i : Nat) (sample : Int) (s : State),
    let m := s.msu.get x
    (∀ (r : Selection) (t : Taken) (n : Neighbour), s.selection.get x = some r → r.handle = h → r.void = false →
      r.next = i → r.list[i]? = some t → m.ring[t.position]? = some n →
      let serving := (s.cxm.get x).level
      let n' := judge m.settings serving sample n
      let fire : Bool := !n.reported && n'.reported
      let record : ReportRecord :=
        { tag := n.tag, channel := n.channel, raw := sample, level := filterLevel m.settings.k n.level sample,
          round := t.round, stale := n.stale, candidate := fire, above := n'.above }
      let write (b : Bank) : Bank :=
        if b.records.length < 8 then { b with records := b.records ++ [record], candidate := b.candidate || fire }
        else { b with overflow := true }
      let ringed : Msu := { m with ring := m.ring.set t.position n' }
      let banked : Msu :=
        if m.bank0.state = .filling then { ringed with bank0 := write m.bank0 } else { ringed with bank1 := write m.bank1 }
      let told : State :=
        if fire = true then
          giveNotice x.port
            { body := .candidate n.tag n.channel (filterLevel m.settings.k n.level sample) (serving.getD 0), sub := some x,
              stamp := s.tbu.lt } s
        else s
      let pointer : Nat × Nat :=
        match r.list[i + 1]? with
        | some u => (u.position, u.round)
        | none => (r.stopPosition, r.stopRound)
      let written := bankSwitch x { told with msu := told.msu.set x banked }
      neighbourResult x h i sample s =
        { written with msu := written.msu.set x
                         { written.msu.get x with pointer := pointer.1, round := pointer.2 },
                       selection := s.selection.set x (some { r with next := i + 1 }) }) ∧
    ((∀ r, s.selection.get x = some r → r.void = true ∨ r.handle ≠ h ∨ r.next ≠ i) → neighbourResult x h i sample s = s)

/-- The decision on a listen (R92): PRESENT from T_p, ABSENT up to T_a, UNCERTAIN between them and for an absent report. A
judged LISTEN's record is discarded (R92), and those of others not yet judged stay, by the model's reading of R85 (log 9);
ABSENT brings nothing; PRESENT and UNCERTAIN give PAGE with the metric and the listen frame, and the page read of its
record's frame, position and length is offered through the current timebase (R94, R95): admitted, its read record is
written; refused, or with its frame past, it is a missed page. A LISTEN placed before a re-anchoring gives PAGE and a missed
read with reason FLUSHED (R102).
PAGE_MISSED goes to the stack port and to the Application Port, and the missed-page count rises by 1, staying at 65,535
(R100, R101). -/
def Obligations.ListenDecisionAndMissedPage : Prop :=
  (∀ c : PagingConfig, c.tA < c.tP →
     decisionOf c none = .uncertain ∧
     ∀ m : Int, (decisionOf c (some m) = .present ↔ (c.tP : Int) ≤ m) ∧ (decisionOf c (some m) = .absent ↔ m ≤ c.tA)) ∧
  (∀ (e : Entry) (r : ListenRecord) (metric : Option Int) (s : State),
     let x := e.owner
     (s.pgu.get x).listens.find? (fun q => q.handle == e.handle) = some r →
     let dropped : State := { s with pgu := s.pgu.set x { s.pgu.get x with
       listens := (s.pgu.get x).listens.filter (fun q => q.handle != e.handle) } }
     let d := decisionOf r.config metric
     let paged : State :=
       giveNotice x.port { body := .page d metric r.frame, sub := some x, stamp := s.tbu.lt } dropped
     let f : FN := r.frame + BitVec.ofNat 12 r.config.readOffset
     (d = .absent → judgeListen e metric s = dropped) ∧
     (d ≠ .absent → r.epoch ≠ (s.pgu.get x).epoch →
       judgeListen e metric s = pageMissed x .pageRead f .flushed paged) ∧
     (∀ b cell, d ≠ .absent → r.epoch = (s.pgu.get x).epoch → s.tbu.record.get x = some b →
       (s.cxm.get x).serving = some cell →
       (convert b { fn := f, fp := r.config.readFp } = none →
         judgeListen e metric s = pageMissed x .pageRead f .late paged) ∧
       (∀ l, convert b { fn := f, fp := r.config.readFp } = some l →
         let read : Entry :=
           { handle := noHandle, owner := x, origin := .pageRead, kind := .pageRead, priority := 2,
             frame := some { fn := f, fp := r.config.readFp }, start := l, stop := l + BitVec.ofNat 48 r.config.readLen,
             channel := cell.channel, txLevel := none, index := none, measureList := none, partner := none,
             state := .admitted, cut := false }
         (∀ h u, admitEntries false [read] paged = .admitted [h] u → judgeListen e metric s =
           { u with pgu := u.pgu.set x { u.pgu.get x with
               read := some { handle := h, listenFrame := r.frame, readFrame := f } } }) ∧
         (∀ k why, admitEntries false [read] paged = .refused k why →
           judgeListen e metric s = pageMissed x .pageRead f why paged)))) ∧
  (∀ (x : Subscription) (k : Kind) (f : FN) (r : Reason) (s : State),
     let n : Notice := { body := .pageMissed k f r, sub := some x, stamp := s.tbu.lt }
     pageMissed x k f r s =
       { s with queues := (s.queues.upd x.port (·.push n)).upd .P (·.push n),
                missed := s.missed.set x
                  (if s.missed.get x < 65535 then s.missed.get x + 1 else s.missed.get x) })

/-! ### Calls (chapter 6) -/

/-- The tests of a call pattern (R109): marked positions, ranges, windows within the frame, and their separation by the set
G_turn, which may lie either way round.
START_CALL (R27, R42, R55, R112): the four tests in order, then the claim, the credit, the lowering of the other
subscription's EXCH entries to priority 2, the context, the lease, PAGE inactive, and the CALL pattern with its first call
frame.
MODIFY_CALL stages a pattern in CALL (R113); RENEW_HOLD renews the lease in CALL and in HANDOVER with prior state CALL
(R117). -/
def Obligations.CallRequests : Prop :=
  ((∀ (p : CallPattern) (gTurn : Nat),
      callPatternOk p gTurn = true ↔
        p.marks ≠ 0 ∧ p.rxFp < 260000 ∧ p.txFp < 260000 ∧ 1300 ≤ p.rxLen ∧ p.rxLen ≤ 260000 ∧ 1300 ≤ p.txLen ∧
        p.txLen ≤ 260000 ∧ p.rxFp + p.rxLen ≤ 260000 ∧ p.txFp + p.txLen ≤ 260000 ∧
        (p.rxFp ≤ p.txFp → p.rxFp + p.rxLen + gTurn ≤ p.txFp) ∧ (p.txFp < p.rxFp → p.txFp + p.txLen + gTurn ≤ p.rxFp)) ∧
   (∀ (x : Subscription) (p : CallPattern) (lease : Nat) (tag : BitVec 8) (s : State),
      pendingTag x.port (.startCall p lease) s = some tag →
      let level : Int := max (-40) (min p.txLevel 24)
      let l : Nat := if lease = 0 then 200 else lease
      let lower (e : Entry) : Entry :=
        if e.owner == x.other && (e.kind == .exchRx || e.kind == .exchTx) then { e with priority := 2 } else e
      let context : Context :=
        { s.cxm.get x with state := .call, purpose := none, exchangeDeadline := none,
                           leaseDeadline := some (s.tbu.lt + BitVec.ofNat 48 (l * 260000)) }
      let t : State :=
        { s with ceu := { s.ceu with claim := some x }, credit := { credit := s.air.creditMax, refill := 0 },
                 plan := s.plan.map lower, cxm := s.cxm.set x context }
      let u : State := deactivate x .page t
      let items : CeuItems :=
        { u.ceu.items.get x with timer := none, lease := some l, active := some { p with txLevel := level },
                                 staged := none }
      exec (.startCall x p lease) s =
        if (s.cxm.get x).state ≠ .exchange then refusedWith x.port tag .state s
        else if callPatternOk p s.air.gTurn = false ∨ (lease ≠ 0 ∧ (lease < 50 ∨ 1000 < lease)) then
          refusedWith x.port tag .badValue s
        else if s.ceu.claim = some x.other then refusedWith x.port tag .callClaimed s
        else if s.csc.filtered = .critical then refusedWith x.port tag .lowPower s
        else tookEffect x.port tag (if level = p.txLevel then .ok else .clamped) .empty
          (activate x .call { u with ceu := { u.ceu with items := u.ceu.items.set x items } }))) ∧
  (∀ (x : Subscription) (tag : BitVec 8) (s : State),
     let c := s.cxm.get x
     let items := s.ceu.items.get x
     (∀ p, pendingTag x.port (.modifyCall p) s = some tag →
       let level : Int := max (-40) (min p.txLevel 24)
       exec (.modifyCall x p) s =
         if c.state ≠ .call then refusedWith x.port tag .state s
         else if callPatternOk p s.air.gTurn = false then refusedWith x.port tag .badValue s
         else
           let staged : CeuItems := { items with staged := some { p with txLevel := level } }
           tookEffect x.port tag (if level = p.txLevel then .ok else .clamped) .empty
             { s with ceu := { s.ceu with items := s.ceu.items.set x staged } }) ∧
     (∀ lease, pendingTag x.port (.renewHold lease) s = some tag →
       let l : Nat := if lease = 0 then items.lease.getD 200 else lease
       let context : Context := { c with leaseDeadline := some (s.tbu.lt + BitVec.ofNat 48 (l * 260000)) }
       exec (.renewHold x lease) s =
         if ¬ (c.state = .call ∨ (c.state = .handover ∧ c.prior = some .call)) then refusedWith x.port tag .state s
         else if lease ≠ 0 ∧ (lease < 50 ∨ 1000 < lease) then refusedWith x.port tag .badValue s
         else
           let renewed : CeuItems := { items with lease := some l }
           tookEffect x.port tag .ok .empty
             { s with ceu := { s.ceu with items := s.ceu.items.set x renewed }, cxm := s.cxm.set x context }))

/-- END_CALL and the lease deadline, in CALL and in HANDOVER with prior state CALL (R28, R31, R118 to R120): the claim and the
credit released, the CALL pattern removed with its items (what a member that runs on tells: log 28), the notices, the
context, and PAGE active where its state then calls for it. -/
def Obligations.CallEnds : Prop :=
  ∀ (x : Subscription) (s : State),
    let c := s.cxm.get x
    let held : Prop := c.state = .call ∨ (c.state = .handover ∧ c.prior = some .call)
    let removed : State :=
      deactivate x .call { s with ceu := { s.ceu with claim := none }, credit := { credit := 0, refill := 0 } }
    let items : CeuItems :=
      { removed.ceu.items.get x with lease := none, active := none, staged := none, resume := none }
    let cleared : State := { removed with ceu := { removed.ceu with items := removed.ceu.items.set x items } }
    let context : Context :=
      if c.state = .handover then { c with prior := some .camped, leaseDeadline := none }
      else { c with state := .camped, leaseDeadline := none }
    let ended (u : State) : State :=
      let v : State := { u with cxm := u.cxm.set x context }
      if pageCalled x v = true then activate x .page v else v
    let toApp (b : NoticeBody) (at_ : LT) (u : State) : State :=
      giveNotice .P { body := b, sub := some x, stamp := at_ } u
    (∀ tag, pendingTag x.port .endCall s = some tag →
      (held → exec (.endCall x) s =
        tookEffect x.port tag .ok .empty (ended (toApp (.callEnded .endCall) s.tbu.lt cleared))) ∧
      (¬ held → exec (.endCall x) s = refusedWith x.port tag .state s)) ∧
    (∀ d, ltRuns s = true → held → c.leaseDeadline = some d → ltReached s.tbu.lt d = true →
      exec (.leaseDeadline x) s =
        happened (ended (toApp .leaseLost d
          (giveNotice x.port { body := .leaseLost, sub := some x, stamp := d } cleared))))

/-! ### Measurement (chapter 7) -/

/-- A sample filtered into a level (R137): the first sample stands, a later one moves the level by the difference divided by
2^k truncated toward zero, with k = 0 the level becomes the sample, and the new level lies between the old one and the
sample.
The gap period in force (R127): twice the configured one in thrift, up to 128.
A neighbour result's judgement (R137, R139): with the serving level present and the new filtered level at or above it plus
the hysteresis, the count rises to at most N, and reaching N sets ABOVE and REPORTED; otherwise the count is 0 and ABOVE
clear, REPORTED kept.
The selection of a gap's neighbours takes at most the room there is, each with its cell, its position and a round in which
its class's mask has the bit set (R133, R134). -/
def Obligations.MeasurementArithmetic : Prop :=
  (∀ (k : Nat) (l sample : Int),
     filterLevel k none sample = sample ∧ filterLevel k (some l) sample = l + (sample - l).tdiv (2 ^ k) ∧
     filterLevel 0 (some l) sample = sample ∧
     min l sample ≤ filterLevel k (some l) sample ∧ filterLevel k (some l) sample ≤ max l sample) ∧
  (∀ p : Nat, gapPeriod false p = p ∧ gapPeriod true p = (if 128 < 2 * p then 128 else 2 * p) ∧
     (64 ≤ p → gapPeriod true p = 128)) ∧
  (∀ (m : MeasSettings) (serving : Option Int) (sample : Int) (n : Neighbour),
     let level := filterLevel m.k n.level sample
     let count := min (n.count + 1) m.n
     let n' := judge m serving sample n
     n'.level = some level ∧ n'.stale = false ∧ n'.tag = n.tag ∧ n'.channel = n.channel ∧ n'.cls = n.cls ∧
     n'.offset = n.offset ∧
     ((∃ l, serving = some l ∧ l + m.hysteresis ≤ level) →
       n'.count = count ∧ n'.above = (n.above || count == m.n) ∧ n'.reported = (n.reported || count == m.n)) ∧
     ((∀ l, serving = some l → level < l + m.hysteresis) →
       n'.count = 0 ∧ n'.above = false ∧ n'.reported = n.reported)) ∧
  (∀ (m : MeasSettings) (ring : List Neighbour) (room position round : Nat),
     let taken := (scan m ring ring.length room position round).1
     taken.length ≤ room ∧ taken.length ≤ ring.length ∧
     ∀ t ∈ taken, ∃ n, ring[t.position]? = some n ∧ t.tag = n.tag ∧ t.channel = n.channel ∧
       (m.mask n.cls).getLsbD t.round = true)

/-- SET_MEAS (R125): refused and clamped values, the configuration and the settings, the pattern placed afresh or made
active, counts limited to the new N, and the switch test. -/
def Obligations.SetMeasConfigures : Prop :=
  ∀ (x : Subscription) (b : MeasBody) (tag : BitVec 8) (s : State), pendingTag x.port (.setMeas b) s = some tag →
    let maskOk (m : Option Nat) : Prop := ∀ v, m = some v → v ≤ 15
    let ok : Prop :=
      8 ≤ b.period ∧ b.period ≤ 128 ∧ b.fp < 260000 ∧ 13000 ≤ b.length ∧ b.length ≤ 156000 ∧
      maskOk b.mask0 ∧ maskOk b.mask1 ∧ maskOk b.mask2 ∧ maskOk b.mask3
    let outside (lo hi : Nat) (v : Option Nat) : Prop := ∃ n, v = some n ∧ (n < lo ∨ hi < n)
    let clampedValue : Prop :=
      outside 0 4 b.k ∨ outside 0 30 b.hysteresis ∨ outside 1 8 b.n ∨ outside 1 8 b.threshold
    let c := s.cxm.get x
    let m := s.msu.get x
    let given (lo hi : Nat) (v : Option Nat) (old : Nat) : Nat := (v.map (fun n => max lo (min n hi))).getD old
    let mask (v : Option Nat) (old : BitVec 4) : BitVec 4 := (v.map (BitVec.ofNat 4)).getD old
    let settings : MeasSettings :=
      { k := given 0 4 b.k m.settings.k, hysteresis := given 0 30 b.hysteresis m.settings.hysteresis,
        n := given 1 8 b.n m.settings.n, threshold := given 1 8 b.threshold m.settings.threshold,
        mask0 := mask b.mask0 m.settings.mask0, mask1 := mask b.mask1 m.settings.mask1,
        mask2 := mask b.mask2 m.settings.mask2, mask3 := mask b.mask3 m.settings.mask3 }
    let configured : Msu :=
      { m with config := some { period := b.period, fp := b.fp, length := b.length }, settings := settings }
    let t : State := { s with msu := s.msu.set x configured }
    let placed : State :=
      if (s.patterns.get x).meas.active = true then rematerialise x .meas none t
      else if measCalled x s = true then activate x .meas t else t
    let taken : State := bankSwitch x (updMsu x (fun n =>
      { n with ring := n.ring.map (fun r => { r with count := min r.count n.settings.n }) }) placed)
    (c.state = .absent ∨ c.state = .handover → exec (.setMeas x b) s = refusedWith x.port tag .state s) ∧
    (c.state ≠ .absent → c.state ≠ .handover → ¬ ok → exec (.setMeas x b) s = refusedWith x.port tag .badValue s) ∧
    (c.state ≠ .absent → c.state ≠ .handover → ok → ¬ clampedValue →
      exec (.setMeas x b) s = tookEffect x.port tag .ok .empty taken) ∧
    (c.state ≠ .absent → c.state ≠ .handover → ok → clampedValue →
      exec (.setMeas x b) s = tookEffect x.port tag .clamped .empty taken)

/-- SET_NEIGHBOURS (R129): the tests in order; the list replaces the ring in its order, a record whose cell the old ring held
keeps its level, count, ABOVE and REPORTED, every record is STALE, pointer and round are 0, a held selection is void.
ADD_NEIGHBOUR (R130): ranges, serving cell, duplicate, full ring, in this order; the record is placed at the end with no
level, count 0, ABOVE and REPORTED clear and STALE set, and the pointer, the round and any selection are unchanged.
REMOVE_NEIGHBOUR (R131): the first record of the named cell, at position j, is deleted; the pointer and the round by the
rule's five cases; a held selection is void.
SET_CLASS (R132): the named record takes the new class, and nothing else of the ring changes. -/
def Obligations.RingRequests : Prop :=
  (∀ (x : Subscription) (l : List NeighbourSpec) (tag : BitVec 8) (s : State),
     pendingTag x.port (.setNeighbours l) s = some tag →
     let onCell : Prop :=
       (s.cxm.get x).state = .camped ∨ (s.cxm.get x).state = .exchange ∨ (s.cxm.get x).state = .call
     let inRange (r : NeighbourSpec) : Prop :=
       r.tag ≤ 1023 ∧ r.channel ≤ 4095 ∧ r.cls ≤ 3 ∧ ∀ o, r.offset = some o → -130000 ≤ o ∧ o ≤ 129999
     let serving : Prop := ∃ r ∈ l, (s.cxm.get x).serving = some { tag := r.tag, channel := r.channel }
     let distinct : Prop := l.Pairwise (fun r q => ¬ (r.tag = q.tag ∧ r.channel = q.channel))
     let m := s.msu.get x
     let placed (r : NeighbourSpec) : Neighbour :=
       let old := m.ring.find? (fun n => n.tag == r.tag && n.channel == r.channel)
       { tag := r.tag, channel := r.channel, cls := r.cls, offset := r.offset, level := old.bind (·.level),
         count := (old.map (·.count)).getD 0, above := (old.map (·.above)).getD false,
         reported := (old.map (·.reported)).getD false, stale := true }
     let ring : Msu := { m with ring := l.map placed, pointer := 0, round := 0 }
     let selection := s.selection.set x ((s.selection.get x).map (fun v => { v with void := true }))
     (¬ onCell → exec (.setNeighbours x l) s = refusedWith x.port tag .state s) ∧
     (onCell → ¬ (∀ r ∈ l, inRange r) → exec (.setNeighbours x l) s = refusedWith x.port tag .badValue s) ∧
     (onCell → (∀ r ∈ l, inRange r) → serving → exec (.setNeighbours x l) s = refusedWith x.port tag .serving s) ∧
     (onCell → (∀ r ∈ l, inRange r) → ¬ serving → ¬ distinct →
       exec (.setNeighbours x l) s = refusedWith x.port tag .duplicate s) ∧
     (onCell → (∀ r ∈ l, inRange r) → ¬ serving → distinct →
       exec (.setNeighbours x l) s =
         tookEffect x.port tag .ok .empty { s with msu := s.msu.set x ring, selection := selection })) ∧
  ((∀ (x : Subscription) (r : NeighbourSpec) (tag : BitVec 8) (s : State),
      pendingTag x.port (.addNeighbour r) s = some tag →
      let onCell : Prop :=
        (s.cxm.get x).state = .camped ∨ (s.cxm.get x).state = .exchange ∨ (s.cxm.get x).state = .call
      let inRange : Prop :=
        r.tag ≤ 1023 ∧ r.channel ≤ 4095 ∧ r.cls ≤ 3 ∧ ∀ o, r.offset = some o → -130000 ≤ o ∧ o ≤ 129999
      let serving : Prop := (s.cxm.get x).serving = some { tag := r.tag, channel := r.channel }
      let m := s.msu.get x
      let held : Prop := ∃ n ∈ m.ring, n.tag = r.tag ∧ n.channel = r.channel
      let fresh : Neighbour :=
        { tag := r.tag, channel := r.channel, cls := r.cls, offset := r.offset, level := none, count := 0, above := false,
          reported := false, stale := true }
      (¬ onCell → exec (.addNeighbour x r) s = refusedWith x.port tag .state s) ∧
      (onCell → ¬ inRange → exec (.addNeighbour x r) s = refusedWith x.port tag .badValue s) ∧
      (onCell → inRange → serving → exec (.addNeighbour x r) s = refusedWith x.port tag .serving s) ∧
      (onCell → inRange → ¬ serving → held → exec (.addNeighbour x r) s = refusedWith x.port tag .duplicate s) ∧
      (onCell → inRange → ¬ serving → ¬ held → 16 ≤ m.ring.length →
        exec (.addNeighbour x r) s = refusedWith x.port tag .ringFull s) ∧
      (onCell → inRange → ¬ serving → ¬ held → m.ring.length < 16 →
        exec (.addNeighbour x r) s =
          tookEffect x.port tag .ok .empty { s with msu := s.msu.set x { m with ring := m.ring ++ [fresh] } })) ∧
   (∀ (x : Subscription) (t c j : Nat) (tag : BitVec 8) (s : State),
      pendingTag x.port (.removeNeighbour t c) s = some tag →
      let onCell : Prop :=
        (s.cxm.get x).state = .camped ∨ (s.cxm.get x).state = .exchange ∨ (s.cxm.get x).state = .call
      let m := s.msu.get x
      let names (i : Nat) : Prop := ∃ n, m.ring[i]? = some n ∧ n.tag = t ∧ n.channel = c
      let p := m.pointer
      let next : Nat × Nat :=
        if m.ring.length = 1 then (0, m.round)
        else if j < p then (p - 1, m.round)
        else if p < j then (p, m.round)
        else if p + 1 < m.ring.length then (p, m.round)
        else (0, (m.round + 1) % 4)
      let selection := s.selection.set x ((s.selection.get x).map (fun v => { v with void := true }))
      (¬ onCell → exec (.removeNeighbour x t c) s = refusedWith x.port tag .state s) ∧
      (onCell → 1023 < t ∨ 4095 < c ∨ (∀ i, ¬ names i) →
        exec (.removeNeighbour x t c) s = refusedWith x.port tag .badValue s) ∧
      (onCell → t ≤ 1023 → c ≤ 4095 → names j → (∀ i, i < j → ¬ names i) →
        exec (.removeNeighbour x t c) s =
          let removed : Msu := { m with ring := m.ring.eraseIdx j, pointer := next.1, round := next.2 }
          tookEffect x.port tag .ok .empty { s with msu := s.msu.set x removed, selection := selection })) ∧
   (∀ (x : Subscription) (t c k : Nat) (tag : BitVec 8) (s : State),
      pendingTag x.port (.setClass t c k) s = some tag →
      let onCell : Prop :=
        (s.cxm.get x).state = .camped ∨ (s.cxm.get x).state = .exchange ∨ (s.cxm.get x).state = .call
      let m := s.msu.get x
      let named : Prop := ∃ n ∈ m.ring, n.tag = t ∧ n.channel = c
      let ring := m.ring.map (fun n => if n.tag = t ∧ n.channel = c then { n with cls := k } else n)
      (¬ onCell → exec (.setClass x t c k) s = refusedWith x.port tag .state s) ∧
      (onCell → 1023 < t ∨ 4095 < c ∨ 3 < k ∨ ¬ named →
        exec (.setClass x t c k) s = refusedWith x.port tag .badValue s) ∧
      (onCell → t ≤ 1023 → c ≤ 4095 → k ≤ 3 → named →
        exec (.setClass x t c k) s = tookEffect x.port tag .ok .empty { s with msu := s.msu.set x { m with ring := ring } })))

/-- READ_BANK (R143) and RELEASE_BANK (R144): BANK_NOT_READY without a READY bank; a reading changes nothing and returns the
READY bank's number, records, overflow flag and whether a record is marked CANDIDATE; a release empties it and makes the
switch test. Stated for bank 0 READY, and for bank 1 READY with bank 0 not, of which a state has at most one (R142).
The switch test (R142): with bank 0 FILLING and due and bank 1 EMPTY, bank 0 becomes READY, bank 1 FILLING, and BANK_READY
is given; with the other bank not EMPTY, or the FILLING bank not due, nothing changes; and the same with the banks exchanged.
ACK_CANDIDATE (R140, R154): each named record of the ring, and the held target record, has REPORTED and ABOVE cleared and
its count set to 0. -/
def Obligations.ReportBanksAndAcknowledge : Prop :=
  ((∀ (x : Subscription) (tag : BitVec 8) (s : State),
      let m := s.msu.get x
      let body (i : Nat) (b : Bank) : Body := .bank i b.records b.overflow (b.records.any (·.candidate))
      let empty : Bank := { state := .empty, records := [], overflow := false, candidate := false }
      let present : Prop := (s.cxm.get x).state ≠ .absent
      (pendingTag x.port .readBank s = some tag →
        (¬ present → exec (.readBank x) s = refusedWith x.port tag .state s) ∧
        (present → m.bank0.state ≠ .ready → m.bank1.state ≠ .ready →
          exec (.readBank x) s = refusedWith x.port tag .bankNotReady s) ∧
        (present → m.bank0.state = .ready → exec (.readBank x) s = answeredOnly x.port tag .ok (body 0 m.bank0) s) ∧
        (present → m.bank0.state ≠ .ready → m.bank1.state = .ready →
          exec (.readBank x) s = answeredOnly x.port tag .ok (body 1 m.bank1) s)) ∧
      (pendingTag x.port .releaseBank s = some tag →
        (¬ present → exec (.releaseBank x) s = refusedWith x.port tag .state s) ∧
        (present → m.bank0.state ≠ .ready → m.bank1.state ≠ .ready →
          exec (.releaseBank x) s = refusedWith x.port tag .bankNotReady s) ∧
        (present → m.bank0.state = .ready → exec (.releaseBank x) s = tookEffect x.port tag .ok .empty
          (bankSwitch x { s with msu := s.msu.set x { m with bank0 := empty } })) ∧
        (present → m.bank0.state ≠ .ready → m.bank1.state = .ready →
          exec (.releaseBank x) s = tookEffect x.port tag .ok .empty
            (bankSwitch x { s with msu := s.msu.set x { m with bank1 := empty } })))) ∧
   (∀ (x : Subscription) (s : State),
      let m := s.msu.get x
      let due (b : Bank) : Prop := m.settings.threshold ≤ b.records.length ∨ b.candidate = true
      let ready (i : Nat) (b : Bank) (t : State) : State :=
        giveNotice x.port { body := .bankReady i b.records.length b.overflow, sub := some x, stamp := s.tbu.lt } t
      (m.bank0.state = .filling → due m.bank0 → m.bank1.state = .empty →
        let n : Msu := { m with bank0 := { m.bank0 with state := .ready }, bank1 := { m.bank1 with state := .filling } }
        bankSwitch x s = ready 0 m.bank0 { s with msu := s.msu.set x n }) ∧
      (m.bank0.state = .filling → ¬ (due m.bank0 ∧ m.bank1.state = .empty) → bankSwitch x s = s) ∧
      (m.bank0.state ≠ .filling → due m.bank1 → m.bank0.state = .empty →
        let n : Msu := { m with bank0 := { m.bank0 with state := .filling }, bank1 := { m.bank1 with state := .ready } }
        bankSwitch x s = ready 1 m.bank1 { s with msu := s.msu.set x n }) ∧
      (m.bank0.state ≠ .filling → ¬ (due m.bank1 ∧ m.bank0.state = .empty) → bankSwitch x s = s))) ∧
  (∀ (x : Subscription) (t : Nat) (ch : Option Nat) (tag : BitVec 8) (s : State),
     pendingTag x.port (.ackCandidate t ch) s = some tag →
     let named (n : Neighbour) : Bool := n.tag == t && (ch == none || ch == some n.channel)
     let cleared (n : Neighbour) : Neighbour :=
       if named n = true then { n with reported := false, count := 0, above := false } else n
     let m := s.msu.get x
     let h := s.hou.get x
     let held : Option Neighbour := (h.record.bind (·.held)).map (·.1)
     let out : Prop := 1023 < t ∨ (∃ c, ch = some c ∧ 4095 < c)
     let named? : Prop := (∃ n ∈ m.ring, named n = true) ∨ (∃ n, held = some n ∧ named n = true)
     let away : Prop := (s.cxm.get x).state = .absent ∨ (s.cxm.get x).state = .searching
     (away → exec (.ackCandidate x t ch) s = refusedWith x.port tag .state s) ∧
     (¬ away → out ∨ ¬ named? → exec (.ackCandidate x t ch) s = refusedWith x.port tag .badValue s) ∧
     (¬ away → ¬ out → named? →
       let record := h.record.map (fun r => { r with held := r.held.map (fun p => (cleared p.1, p.2)) })
       exec (.ackCandidate x t ch) s = tookEffect x.port tag .ok .empty
         { s with msu := s.msu.set x { m with ring := m.ring.map cleared },
                  hou := s.hou.set x { h with record := record } }))

/-! ### Handover and reselection (chapter 8) -/

/-- RESELECT (R160): the four tests in order, then the pending record, its offset copied from the ring.
HANDOVER_CANCEL in ARMED (R32, R151): the SYNC leaves if it is still in the plan, the record goes, and the context is back
in its prior state, an exchange with its deadline set anew. -/
def Obligations.ReselectAndHandoverCancel : Prop :=
  (∀ (x : Subscription) (b : ReselectBody) (tag : BitVec 8) (s : State), pendingTag x.port (.reselect b) s = some tag →
     let idle : Prop := (s.cxm.get x).state = .camped ∧ (s.hou.get x).reselect = none
     let inRange : Prop := b.tag ≤ 1023 ∧ b.channel ≤ 4095 ∧ b.fnS ≤ 4095 ∧ b.fnNew ≤ 4095
     let offset : Option Int :=
       ((s.msu.get x).ring.find? (fun n => n.tag == b.tag && n.channel == b.channel)).bind (·.offset)
     (¬ idle → exec (.reselect x b) s = refusedWith x.port tag .state s) ∧
     (idle → ¬ inRange → exec (.reselect x b) s = refusedWith x.port tag .badValue s) ∧
     (∀ tb, idle → inRange → s.tbu.record.get x = some tb →
       let d := (b.fnS + 4096 - tb.fnRef.toNat) % 4096
       exec (.reselect x b) s =
         if d < 2 ∨ 64 < d then refusedWith x.port tag .badValue s
         else match offset with
           | none => refusedWith x.port tag .noTiming s
           | some o =>
             let r : ReselectRecord :=
               { tag := b.tag, channel := b.channel, offset := o, fnS := BitVec.ofNat 12 b.fnS,
                 fnNew := BitVec.ofNat 12 b.fnNew }
             tookEffect x.port tag .ok .empty
               { s with hou := s.hou.set x { s.hou.get x with reselect := some r } })) ∧
  (∀ (x : Subscription) (tag : BitVec 8) (s : State), pendingTag x.port .handoverCancel s = some tag →
     let c := s.cxm.get x
     let h := s.hou.get x
     let armed : Prop := c.state = .handover ∧ h.record.map (·.phase) = some .armed
     let context : Context :=
       match c.prior with
       | some .call => { c with state := .call, prior := none }
       | some .exchange =>
         { c with state := .exchange, prior := none,
                  exchangeDeadline :=
                    (s.ceu.items.get x).timer.map (fun n => s.tbu.lt + BitVec.ofNat 48 (n * 260000)) }
       | _ => { c with state := .camped, prior := none }
     (¬ armed → exec (.handoverCancel x) s = refusedWith x.port tag .state s) ∧
     (∀ r, armed → h.record = some r →
       let without : State :=
         match syncInPlan x r s with
         | some e => dropEntry e s
         | none => s
       exec (.handoverCancel x) s = tookEffect x.port tag .ok .empty
         { without with hou := without.hou.set x { h with record := none },
                        cxm := without.cxm.set x context }))

/-- HANDOVER_ARM (R30, R148, R149): the tests in order; the SYNC on the target channel, of priority 3, from the start of FN_s
moved by the pending slew and the target offset; if it is admitted, the record in phase ARMED and the context in HANDOVER
with its prior state and without an exchange deadline. If it is not admitted the answer is CONFLICT, with a full plan too by
the model's reading (log 13).
HANDOVER_ARM of a target with timing completes where the SYNC meets nothing, the SYNC lies later than now + 6,500 and a slot
is free: the SYNC is in the plan, the record is ARMED, the context is in HANDOVER. -/
def Obligations.HandoverArm : Prop :=
  (∀ (x : Subscription) (b : ArmBody) (tag : BitVec 8) (s : State), pendingTag x.port (.handoverArm b) s = some tag →
     let c := s.cxm.get x
     let armable : Prop :=
       (c.state = .exchange ∨ c.state = .call) ∧ (s.cxm.get x.other).state ≠ .handover
     let inRange : Prop :=
       b.tag ≤ 1023 ∧ b.channel ≤ 4095 ∧ b.fnS ≤ 4095 ∧ b.fnNew ≤ 4095 ∧ (b.sync = 1 ∨ b.sync = 2) ∧ 2 ≤ b.limit ∧
       b.limit ≤ 50
     let offset : Option Int :=
       ((s.msu.get x).ring.find? (fun n => n.tag == b.tag && n.channel == b.channel)).bind (·.offset)
     (¬ armable → exec (.handoverArm x b) s = refusedWith x.port tag .state s) ∧
     (armable → ¬ inRange → exec (.handoverArm x b) s = refusedWith x.port tag .badValue s) ∧
     (∀ tb, armable → inRange → s.tbu.record.get x = some tb →
       let d := (b.fnS + 4096 - tb.fnRef.toNat) % 4096
       (d < 2 ∨ 64 < d → exec (.handoverArm x b) s = refusedWith x.port tag .badValue s) ∧
       (2 ≤ d → d ≤ 64 → offset = none → exec (.handoverArm x b) s = refusedWith x.port tag .noTiming s) ∧
       (∀ o, 2 ≤ d → d ≤ 64 → offset = some o →
         let start : LT :=
           tb.ltRef + BitVec.ofNat 48 (d * 260000) + BitVec.ofInt 48 (tb.slew.getD 0) + BitVec.ofInt 48 o
         let e : Entry :=
           { handle := noHandle, owner := x, origin := .sync, kind := .sync, priority := 3, frame := none, start := start,
             stop := start + BitVec.ofNat 48 (b.sync * 260000 - s.air.gRetune), channel := b.channel, txLevel := none,
             index := none, measureList := none, partner := none, state := .admitted, cut := false }
         let armed (h : Handle) : HandoverRecord :=
           { phase := .armed, tag := b.tag, channel := b.channel, offset := o, fnS := BitVec.ofNat 12 b.fnS,
             fnNew := BitVec.ofNat 12 b.fnNew, syncFrames := b.sync, limit := b.limit, sync := h, fallbackCell := none,
             held := none, confirm := none }
         let context : Context :=
           { c with state := .handover, exchangeDeadline := none,
                    prior := some (if c.state = .call then .call else .exchange) }
         exec (.handoverArm x b) s =
           match admitEntries false [e] s with
           | .admitted (h :: _) t =>
             tookEffect x.port tag .ok (.armed h e.start e.stop)
               { t with hou := t.hou.set x { t.hou.get x with record := some (armed h) }, cxm := t.cxm.set x context }
           | _ => refusedWith x.port tag .conflict s))) ∧
  (∀ (x : Subscription) (b : ArmBody) (tag : BitVec 8) (tb : Timebase) (o : Int) (h : Handle) (s : State),
     pendingTag x.port (.handoverArm b) s = some tag →
     (s.cxm.get x).state = .exchange ∨ (s.cxm.get x).state = .call → (s.cxm.get x.other).state ≠ .handover →
     b.tag ≤ 1023 → b.channel ≤ 4095 → b.fnS ≤ 4095 → b.fnNew ≤ 4095 → b.sync = 1 ∨ b.sync = 2 → 2 ≤ b.limit →
     b.limit ≤ 50 → s.tbu.record.get x = some tb → 2 ≤ (b.fnS + 4096 - tb.fnRef.toNat) % 4096 →
     (b.fnS + 4096 - tb.fnRef.toNat) % 4096 ≤ 64 → targetOffset x b.tag b.channel s = some o →
     let e := syncEntry x b (syncStart tb ((b.fnS + 4096 - tb.fnRef.toNat) % 4096) o) s
     ltAfter e.start (s.tbu.lt + BitVec.ofNat 48 6500) = true → s.plan.length < 48 → nextHandle s = some h →
     (∀ f ∈ s.plan, conflicts s.air.gRetune s.air.gTurn e f = false) →
     ∃ t : State, exec (.handoverArm x b) s = tookEffect x.port tag .ok (.armed h e.start e.stop) t ∧
       t.plan = insertByStart { e with handle := h } s.plan ∧ (t.cxm.get x).state = .handover ∧
       (t.hou.get x).record.map (·.phase) = some .armed ∧ t.cxm.get x.other = s.cxm.get x.other ∧
       t.hou.get x.other = s.hou.get x.other ∧ t.tbu = s.tbu ∧ t.msu = s.msu ∧ t.ceu = s.ceu ∧ t.csc = s.csc)

/-- HANDOVER_CONFIRM (R32, R145, R154, R156): refused outside SWITCHED; the fallback timebase, the resume frame and the record
go, the context is back in its prior state, an exchange with its deadline set anew, MEAS resumes, PAGE too where it is
called for, and HANDOVER_DONE is given. Where the target's record is held and the ring has none of that cell, the old
serving cell takes its place in the ring, and the context's level stays. That MEAS is offered before PAGE is the model's
reading (log 17). HANDOVER_FAIL and the confirm deadline in SWITCHED (R32, R154, R157): the timebase record is the fallback
one again, the serving cell and level are those kept at the switch, the held record is back in the ring, the resume frame
and the record go, HANDOVER_FAILED is given with its reason, and the context returns to its prior state with its patterns;
outside SWITCHED FAIL is refused STATE. The SYNC and the one-shots leave the plan, an EXECUTING one with OFF, the one-shots
with FLUSHED in plan order (their order: log 42), and so does a PAGE_READ that is not EXECUTING; the subscription's other
entries take the frame time of their local start in the restored timing (R153), and then the call frames are placed afresh
(R63; log 35). -/
def Obligations.HandoverEnds : Prop :=
  (∀ (x : Subscription) (tag : BitVec 8) (s : State), pendingTag x.port .handoverConfirm s = some tag →
     let c := s.cxm.get x
     let m := s.msu.get x
     let switched (r : HandoverRecord) : Prop :=
       c.state = .handover ∧ (s.hou.get x).record = some r ∧ r.phase = .switched
     let back (level : Option Int) : Context :=
       match c.prior with
       | some .call => { c with state := .call, prior := none, level := level }
       | some .exchange =>
         { c with state := .exchange, prior := none, level := level,
                  exchangeDeadline :=
                    (s.ceu.items.get x).timer.map (fun n => s.tbu.lt + BitVec.ofNat 48 (n * 260000)) }
       | _ => { c with state := .camped, prior := none, level := level }
     let resumed (u : State) : State :=
       let v := activate x .meas u
       if pageCalled x v = true then activate x .page v else v
     let old (f : FallbackCell) (o : Int) : Neighbour :=
       { tag := f.cell.tag, channel := f.cell.channel, cls := 1,
         offset := some (if o = -130000 then 129999 else -o), level := f.level, count := 0, above := false,
         reported := false, stale := true }
     ((∀ r, ¬ switched r) → exec (.handoverConfirm x) s = refusedWith x.port tag .state s) ∧
     (∀ r, switched r →
       ∃ (u : State) (level : Option Int), exec (.handoverConfirm x) s =
           tookEffect x.port tag .ok .empty (giveNotice x.port
             { body := .handoverDone r.tag r.channel, sub := some x, stamp := s.tbu.lt } (resumed u)) ∧
         u.cxm = s.cxm.set x (back level) ∧ u.hou = s.hou.set x { s.hou.get x with record := none } ∧
         u.tbu = { s.tbu with fallback := none } ∧
         u.ceu = { s.ceu with items := s.ceu.items.set x { s.ceu.items.get x with resume := none } } ∧
         u.plan = s.plan ∧ u.csc = s.csc ∧ u.queues = s.queues ∧ u.msu.get x.other = s.msu.get x.other ∧
         (∀ n p f, r.held = some (n, p) → r.fallbackCell = some f → p ≤ m.ring.length → n.tag = r.tag →
           n.channel = r.channel → (∀ k ∈ m.ring, ¬ (k.tag = r.tag ∧ k.channel = r.channel)) →
           u.msu.get x = { m with ring := m.ring.insertIdx p (old f r.offset) } ∧ level = c.level))) ∧
  (∀ (x : Subscription) (r : HandoverRecord) (b : Timebase) (f : FallbackCell) (s : State),
     (s.cxm.get x).state = .handover → (s.hou.get x).record = some r → r.phase = .switched →
     s.tbu.fallback = some (x, b) → r.fallbackCell = some f →
     let c := s.cxm.get x
     let m := s.msu.get x
     let kept : Context := { c with serving := some f.cell, level := f.level, prior := none }
     let back : Context :=
       match c.prior with
       | some .call => { kept with state := .call }
       | some .exchange =>
         { kept with state := .exchange,
                     exchangeDeadline :=
                       (s.ceu.items.get x).timer.map (fun n => s.tbu.lt + BitVec.ofNat 48 (n * 260000)) }
       | _ => { kept with state := .camped }
     let ring : List Neighbour :=
       match r.held with
       | some (n, p) => m.ring.insertIdx p n
       | none => m.ring
     let resumed (u : State) : State :=
       let v := activate x .meas u
       if pageCalled x v = true then activate x .page v else v
     let reverted (why : FailReason) (t : State) : Prop :=
       ∃ u : State,
         t = resumed { giveNotice x.port { body := .handoverFailed why, sub := some x, stamp := s.tbu.lt } u with
                       hou := s.hou.set x { s.hou.get x with record := none }, cxm := s.cxm.set x back } ∧
         u.tbu = { s.tbu with record := s.tbu.record.set x (some { b with slew := none }), fallback := none } ∧
         u.ceu = { s.ceu with items := s.ceu.items.set x { s.ceu.items.get x with resume := none } } ∧
         u.msu = s.msu.set x { m with ring := ring } ∧ u.csc = s.csc ∧ u.votes = s.votes ∧ u.engines = s.engines ∧
         (slotsDistinct s.plan = true →
           let sync (e : Entry) : Bool := e.handle == r.sync && e.kind == .sync && e.owner == x
           let flushed (e : Entry) : Bool :=
             e.owner == x && (e.origin == .oneShot || (e.origin == .pageRead && e.state != .executing))
           let stay := s.plan.filter (fun e => !sync e && !flushed e)
           ∃ v : State, u = rematerialise x .call none v ∧
             v.plan = stay.map (fun e => if e.owner = x ∧ e.frame.isSome = true then
               { e with frame := some (frameOf { b with slew := none } e.start) } else e) ∧
             (s.rsq.link = .up → (∃ e ∈ s.plan, sync e = true ∧ e.state = .executing) → .off .none ∈ v.rsq.waiting) ∧
             (s.rsq.link = .up → (∃ e ∈ s.plan, sync e = false ∧ flushed e = true ∧ e.kind ≠ .measureGap ∧ e.state = .executing) →
               .off .none ∈ v.rsq.waiting) ∧
             ((∀ e ∈ s.plan, e.owner = x → e.origin ≠ .pageRead) → v.missed = s.missed ∧
               v.queues = (s.plan.filter (fun e => !sync e && flushed e)).foldl (fun q e => q.upd x.port (fun n => n.push
                 { body := .flushed { handle := e.handle, kind := e.kind, reason := none, level := none }, sub := some x,
                   stamp := s.tbu.lt })) s.queues))
     (∀ tag, pendingTag x.port .handoverFail s = some tag →
       ∃ t : State, exec (.handoverFail x) s = tookEffect x.port tag .ok .empty t ∧ reverted .request t) ∧
     (∀ d, ltRuns s = true → r.confirm = some d → ltReached s.tbu.lt d = true →
       ∃ t : State, exec (.confirmDeadline x) s = happened t ∧ reverted .deadline t)) ∧
  (∀ (x : Subscription) (tag : BitVec 8) (s : State), pendingTag x.port .handoverFail s = some tag →
     (∀ r, ¬ ((s.cxm.get x).state = .handover ∧ (s.hou.get x).record = some r ∧ r.phase = .switched)) →
     exec (.handoverFail x) s = refusedWith x.port tag .state s)

/-! ### Frame starts (R5, R6) -/

/-- A frame start without slew, staged call pattern to activate or switch, and a frame start of the fallback timebase (R5, R6,
R55, R97, R116): the record advances by one frame, the claim owner's frame start counts towards the credit, the resume frame
reached becomes none, the result window ages and is discarded at age 8. -/
def Obligations.FrameStartAdvances : Prop :=
  (∀ (x : Subscription) (b : Timebase) (s : State), ltRuns s = true → s.tbu.record.get x = some b →
    ltReached s.tbu.lt (b.ltRef + BitVec.ofNat 48 260000) = true → b.slew = none →
    let fn : FN := b.fnRef + 1
    ((s.ceu.items.get x).staged = none ∨ fn.toNat % 8 ≠ 0) →
    (∀ r, (s.hou.get x).reselect = some r → r.fnS ≠ fn) →
    (∀ r, (s.hou.get x).record = some r → r.phase = .armed → r.fnS ≠ fn) →
    let record : Timebase := { fnRef := fn, ltRef := b.ltRef + BitVec.ofNat 48 260000, slew := none }
    let credit : Credit :=
      if s.ceu.claim ≠ some x then s.credit
      else if s.credit.refill + 1 < s.air.refillFrames then { s.credit with refill := s.credit.refill + 1 }
      else { credit := if s.credit.credit < s.air.creditMax then s.credit.credit + 1 else s.credit.credit, refill := 0 }
    let i := s.ceu.items.get x
    let items : CeuItems := { i with resume := if i.resume = some fn then none else i.resume }
    let window : Option ResultWindow :=
      match (s.pgu.get x).window with
      | some w => if w.age < 7 then some { w with age := w.age + 1 } else none
      | none => none
    exec (.frameStart x) s = happened
      { s with tbu := { s.tbu with record := s.tbu.record.set x (some record) }, credit := credit,
               ceu := { s.ceu with items := s.ceu.items.set x items },
               pgu := s.pgu.set x { s.pgu.get x with window := window } }) ∧
  (∀ (x : Subscription) (b : Timebase) (s : State), ltRuns s = true → s.tbu.fallback = some (x, b) →
    ltReached s.tbu.lt (b.ltRef + BitVec.ofNat 48 260000) = true →
    let record : Timebase := { fnRef := b.fnRef + 1, ltRef := b.ltRef + BitVec.ofNat 48 260000, slew := none }
    exec .fallbackFrameStart s = .next { s with tbu := { s.tbu with fallback := some (x, record) } })

/-- What a slew δ does to the entries with a frame start (R11). The frame start of an entry that keeps its local times is
rewritten by −δ, in one frame or the neighbouring one. An ADMITTED entry alone, not of a call frame, is moved by δ and offered
again: where it lies later than now + 6,500 and meets nothing it keeps its handle, frame start and fields at its moved place,
and the start by which its pattern's turn is ordered moves with it (R62); a one-shot that lies too early, or meets an EXECUTING
entry of priority 2 or 3, leaves with DISPLACED, reason SLEW, and its slot's generation rises (R39). -/
def Obligations.SlewReachesTheEntries : Prop :=
  (∀ (d : Int) (t : FrameTime), -2600 ≤ d → d ≤ 2600 → t.fp < 260000 →
    (slewFrame d t).fp < 260000 ∧
    ((slewFrame d t).fn - t.fn).toInt * 260000 + (slewFrame d t).fp = (t.fp : Int) - d ∧
    -1 ≤ ((slewFrame d t).fn - t.fn).toInt ∧ ((slewFrame d t).fn - t.fn).toInt ≤ 1) ∧
  (∀ (x : Subscription) (d : Int) (e : Entry) (s : State), slotsDistinct s.plan = true → e ∈ s.plan → e.owner = x →
    e.frame ≠ none → e.state = .admitted → e.partner = none →
    (∀ f ∈ s.plan, f.owner = x → f.frame ≠ none → f.state = .admitted → f = e) →
    let m : Entry := { e with start := e.start + BitVec.ofInt 48 d, stop := e.stop + BitVec.ofInt 48 d }
    let kept : List Entry := (s.plan.filter (fun f => f.handle != e.handle)).map (fun f =>
      if f.owner = x then { f with frame := f.frame.map (slewFrame d) } else f)
    let turn (p : Pattern) : Pattern :=
      match p.pending with
      | .inPlan ms st l =>
        if e.handle ∈ ms ∧ e.start = st then { p with pending := .inPlan ms (st + BitVec.ofInt 48 d) l } else p
      | _ => p
    let p := s.patterns.get x
    let patterns := s.patterns.set x { p with page := turn p.page, call := turn p.call, meas := turn p.meas }
    let inTime : Bool := ltAfter m.start (s.tbu.lt + BitVec.ofNat 48 6500)
    (inTime = true → (∀ f ∈ kept, conflicts s.air.gRetune s.air.gTurn m f = false) →
      applySlew x d s = { s with plan := insertByStart m kept, patterns := patterns }) ∧
    (e.origin = .oneShot →
      inTime = false ∨
        (∃ f ∈ kept, conflicts s.air.gRetune s.air.gTurn m f = true ∧ f.state = .executing ∧ 2 ≤ f.priority) →
      applySlew x d s = giveNotice x.port
        { body := .displaced { handle := e.handle, kind := e.kind, reason := some .slew, level := none },
          sub := some x, stamp := s.tbu.lt }
        { s with plan := kept, patterns := patterns, gens := s.gens.set e.handle.slot (s.gens[e.handle.slot] + 1) }))

/-- What a frame start brings beyond its advance (R5, R11, R14, R114, R145, R152, R154, R161): a pending slew moves LT_ref, is
used up and is brought to the plan entries (the next occurrences it brings come after the signalling: log 40); a staged call
pattern becomes active where FN mod 8 = 0; at FN_s a pending reselection re-anchors the timebase and takes the target as
serving cell, with the level of its record, whose place in the ring the old serving cell takes; at FN_s an armed handover
takes the target too, keeping the advanced record as fallback, with the confirm deadline and for a call the resume frame,
and sets the target's record aside with its position. A re-anchoring sets the record without slew, raises the epoch, and
gives the subscription's entries with a frame start the frame time of their local start (R14, R85, R153).
At both switches the one-shots leave with FLUSHED and OFF, and a PAGE_READ that has not started, in plan order (log 42). At
a reselection the staged paging configuration becomes active, even where a LISTEN runs on, and every entry that stays has
its frame start rewritten (log 30), every selection held is void, also for a gap that is PREPARING (log 32), PAGE and then
MEAS are placed afresh, and RESELECT_DONE is given. At a handover PAGE becomes inactive and MEAS is suspended before that
(what runs on: log 28), the selection becomes void with the record set aside, the CALL pattern is placed afresh from the
resume frame (log 35), and HANDOVER_SWITCHED is given with the offset of FN_new's start. The frame start is then signalled
under the new numbering: credit, resume frame, result window. -/
def Obligations.FrameStartSlewsAndSwitches : Prop :=
  (∀ (x : Subscription) (fn : FN) (lt : LT) (s : State),
    let b : Timebase := { fnRef := fn, ltRef := lt, slew := none }
    reanchor x fn lt s =
      { s with tbu := { s.tbu with record := s.tbu.record.set x (some b) },
               pgu := s.pgu.set x { s.pgu.get x with epoch := (s.pgu.get x).epoch + 1 },
               plan := s.plan.map (fun e =>
                 if e.owner = x ∧ e.frame ≠ none then { e with frame := some (frameOf b e.start) } else e) }) ∧
  ∀ (x : Subscription) (b : Timebase) (s : State), ltRuns s = true → s.tbu.record.get x = some b →
    ltReached s.tbu.lt (b.ltRef + BitVec.ofNat 48 260000) = true →
    let c := s.cxm.get x
    let i := s.ceu.items.get x
    let fn : FN := b.fnRef + 1
    let lt : LT := b.ltRef + BitVec.ofNat 48 260000 + BitVec.ofInt 48 (b.slew.getD 0)
    let advanced : Timebase := { fnRef := fn, ltRef := lt, slew := none }
    let ring := (s.msu.get x).ring
    let place (tag channel : Nat) : Option Nat := ring.findIdx? (fun n => n.tag == tag && n.channel == channel)
    let named (r : ReselectRecord) : Option Neighbour := (place r.tag r.channel).bind (fun p => ring[p]?)
    let noReselect : Prop := ∀ r, (s.hou.get x).reselect = some r → r.fnS ≠ fn
    let noSwitch : Prop := ∀ r, (s.hou.get x).record = some r → r.phase = .armed → r.fnS ≠ fn
    let signalled (f : FN) (v : State) : State :=
      let j := v.ceu.items.get x
      let p := v.pgu.get x
      { v with
        credit :=
          if v.ceu.claim ≠ some x then v.credit
          else if v.credit.refill + 1 < v.air.refillFrames then { v.credit with refill := v.credit.refill + 1 }
          else { credit := if v.credit.credit < v.air.creditMax then v.credit.credit + 1 else v.credit.credit, refill := 0 },
        ceu := { v.ceu with items := v.ceu.items.set x { j with resume := if j.resume = some f then none else j.resume } },
        pgu := v.pgu.set x { p with window :=
          match p.window with
          | some w => if w.age < 7 then some { w with age := w.age + 1 } else none
          | none => none } }
    let flushed (e : Entry) : Bool :=
      e.owner == x && (e.origin == .oneShot || (e.origin == .pageRead && e.state != .executing))
    let noRead : Prop := ∀ e ∈ s.plan, e.owner = x → e.origin ≠ .pageRead
    let stays (d v : State) (b : Timebase) : Prop :=
      v.plan = (d.plan.filter (fun e => !flushed e)).map (fun e => if e.owner = x ∧ e.frame.isSome = true then
        { e with frame := some (frameOf b e.start) } else e) ∧
      v.patterns = d.patterns ∧
      (s.rsq.link = .up → (∃ e ∈ d.plan, e.owner = x ∧ e.origin = .oneShot ∧ e.kind ≠ .measureGap ∧ e.state = .executing) →
        .off .none ∈ v.rsq.waiting) ∧
      (noRead → v.missed = d.missed ∧
        v.queues = (d.plan.filter flushed).foldl (fun q e => q.upd x.port (fun n => n.push
          { body := .flushed { handle := e.handle, kind := e.kind, reason := none, level := none }, sub := some x,
            stamp := s.tbu.lt })) d.queues)
    (noReselect → noSwitch → ∃ t : State, exec (.frameStart x) s = happened t ∧
      t.tbu = { s.tbu with record := s.tbu.record.set x (some advanced) } ∧ t.cxm = s.cxm ∧ t.hou = s.hou ∧
      t.msu = s.msu ∧ t.csc = s.csc ∧ t.ceu.claim = s.ceu.claim ∧ t.ceu.items.get x.other = s.ceu.items.get x.other ∧
      (∀ p, i.staged = some p → fn.toNat % 8 = 0 →
        (t.ceu.items.get x).active = some p ∧ (t.ceu.items.get x).staged = none) ∧
      (fn.toNat % 8 ≠ 0 → (t.ceu.items.get x).active = i.active ∧ (t.ceu.items.get x).staged = i.staged) ∧
      (∀ d, b.slew = some d → i.staged = none →
        let slewed := applySlew x d { s with tbu := { s.tbu with record := s.tbu.record.set x (some advanced) } }
        t.plan = slewed.plan ∧ t.queues = slewed.queues ∧ t.patterns = slewed.patterns ∧ t.gens = slewed.gens)) ∧
    (∀ r, (s.hou.get x).reselect = some r → r.fnS = fn → ∃ t : State, exec (.frameStart x) s = happened t ∧
      let record : Timebase := { fnRef := r.fnNew, ltRef := lt + BitVec.ofInt 48 r.offset, slew := none }
      t.tbu = { s.tbu with record := s.tbu.record.set x (some record) } ∧
      t.hou = s.hou.set x { s.hou.get x with reselect := none } ∧
      t.cxm.get x.other = s.cxm.get x.other ∧ t.csc = s.csc ∧
      ∀ old, c.serving = some old →
        t.cxm.get x = { c with serving := some { tag := r.tag, channel := r.channel }, level := (named r).bind (·.level) } ∧
        (t.msu.get x).ring =
          let o : Neighbour :=
            { tag := old.tag, channel := old.channel, cls := 1,
              offset := some (if r.offset = -130000 then 129999 else -r.offset), level := c.level, count := 0, above := false,
              reported := false, stale := true }
          match place r.tag r.channel with
          | some p => ring.set p o
          | none => if ring.length < 16 then ring ++ [o] else ring) ∧
    (∀ r old, (s.hou.get x).reselect = some r → r.fnS = fn → c.serving = some old → slotsDistinct s.plan = true →
      i.staged = none ∨ r.fnNew.toNat % 8 ≠ 0 →
      let record : Timebase := { fnRef := r.fnNew, ltRef := lt + BitVec.ofInt 48 r.offset, slew := none }
      ∃ v : State,
        (let placed := rematerialise x .meas none (rematerialise x .page none v)
         exec (.frameStart x) s = happened (signalled r.fnNew (giveNotice x.port
           { body := .reselectDone r.tag r.channel r.fnNew, sub := some x, stamp := s.tbu.lt }
           { placed with hou := s.hou.set x { s.hou.get x with reselect := none } }))) ∧
        stays s v record ∧
        (noRead → v.pgu.get x =
          { s.pgu.get x with epoch := (s.pgu.get x).epoch + 1, staged := none,
                             active := if (s.pgu.get x).staged.isSome = true then (s.pgu.get x).staged
                                       else (s.pgu.get x).active }) ∧
        (∀ sel, v.selection.get x = some sel → sel.void = true) ∧
        (∀ e, s.plan.find? (fun e => e.owner == x && e.kind == .measureGap && e.state == .preparing) = some e →
          e.origin = .meas → ∃ sel, v.selection.get x = some sel ∧ sel.handle = e.handle)) ∧
    (∀ r, noReselect → (s.hou.get x).record = some r → r.phase = .armed → r.fnS = fn → r.syncFrames = 1 ∨ r.syncFrames = 2 →
      ∃ t : State, exec (.frameStart x) s = happened t ∧
      let record : Timebase := { fnRef := r.fnNew, ltRef := lt + BitVec.ofInt 48 r.offset, slew := none }
      t.tbu = { s.tbu with record := s.tbu.record.set x (some record), fallback := some (x, advanced) } ∧
      let held : Option (Neighbour × Nat) := (place r.tag r.channel).bind (fun p => (ring[p]?).map (fun n => (n, p)))
      let r' : HandoverRecord :=
        { r with phase := .switched, fallbackCell := c.serving.map (fun k => { cell := k, level := c.level }),
                 held := held, confirm := some (s.tbu.lt + BitVec.ofNat 48 (r.limit * 260000)) }
      t.hou.get x = { s.hou.get x with record := some r' } ∧
      (t.msu.get x).ring = (match place r.tag r.channel with
        | some p => ring.eraseIdx p
        | none => ring) ∧
      (c.prior = some .call →
        (t.ceu.items.get x).resume = some (r.fnNew + BitVec.ofNat 12 r.syncFrames)) ∧
      t.cxm.get x.other = s.cxm.get x.other ∧ t.csc = s.csc ∧
      t.cxm.get x =
        { c with serving := some { tag := r.tag, channel := r.channel }, level := held.bind (fun p => p.1.level) }) ∧
    (∀ r, noReselect → (s.hou.get x).record = some r → r.phase = .armed → r.fnS = fn → b.slew = none →
      slotsDistinct s.plan = true → i.staged = none ∨ r.fnNew.toNat % 8 ≠ 0 →
      let record : Timebase := { fnRef := r.fnNew, ltRef := lt + BitVec.ofInt 48 r.offset, slew := none }
      let kept : State :=
        { s with tbu := { s.tbu with record := s.tbu.record.set x (some advanced), fallback := some (x, advanced) } }
      let d := deactivate x .meas (deactivate x .page kept)
      let resume : FN := r.fnNew + BitVec.ofNat 12 r.syncFrames
      ∃ v : State,
        exec (.frameStart x) s = happened (signalled r.fnNew (giveNotice x.port
          { body := .handoverSwitched r.fnNew (lt + BitVec.ofInt 48 r.offset - s.tbu.lt).toInt r.limit, sub := some x,
            stamp := s.tbu.lt }
          (if c.prior = some .call then rematerialise x .call (some resume) v else v))) ∧
        stays d v record ∧
        (v.ceu.items.get x).resume = (if c.prior = some .call then some resume else i.resume) ∧
        (noRead → v.pgu.get x = { d.pgu.get x with epoch := (d.pgu.get x).epoch + 1 }) ∧
        (∀ p, place r.tag r.channel = some p →
          v.selection.get x = (d.selection.get x).map (fun sel => { sel with void := true })))

/-! ### Power, policy and ports (chapters 9 and 10) -/

/-- READ_POWER (R183), CLEAR_BATTERY (R181), START_CAL (R179), the clock votes (R174) and calibration due (R176): the
groups returned; the seen flags returned and cleared; an idle calibration waits and its due becomes none; the vote of the
port set or cleared.
SET_POLICY (R44, R55, R175, R178, R182): refused and clamped values; each value given to its holder; the credit lowered to
the new maximum; a new c restarts the calibration; a new interval moves a calibration due, or makes it due now; then the
guard test and the thrift test. -/
def Obligations.PowerAndPolicyRequests : Prop :=
  (∀ (tag : BitVec 8) (s : State),
     let c := s.csc
     let p := s.power
     let phase : CalPhase :=
       match c.cal with
       | .idle => .idle
       | .waiting => .waiting
       | .running _ _ => .running
     let view : PowerView :=
       { state := p.state, entryPending := p.entry.isSome, wakeTarget := p.wakeTarget, last := p.last, k := c.k, c := c.c,
         f := c.f, valid := c.valid, suspect := c.suspect, cal := phase, rescheduled := c.rescheduled,
         calDue := c.calDue, lastCalEnd := c.lastCalEnd, live := c.live, filtered := c.filtered, lowSeen := c.lowSeen,
         criticalSeen := c.criticalSeen, thrift := c.thrift, link := s.rsq.link, indicator := s.rsq.indicator,
         faults := s.rsq.faults, votes := s.votes, wake := s.pins.wake, slumberPermitted := c.slumberPermitted,
         thriftFlag := c.thriftFlag, interval := c.interval, settle := c.settle }
     (pendingTag .P .readPower s = some tag → exec .readPower s = answeredOnly .P tag .ok (.power view) s) ∧
     (pendingTag .P .clearBattery s = some tag →
       exec .clearBattery s = answeredOnly .P tag .ok (.battery c.lowSeen c.criticalSeen)
         { s with csc := { c with lowSeen := false, criticalSeen := false } }) ∧
     (pendingTag .P .startCal s = some tag →
       exec .startCal s = tookEffect .P tag .ok .empty
         { s with csc := if c.cal = .idle then { c with cal := .waiting, calDue := none } else c }) ∧
     (∀ q, pendingTag q .setVote s = some tag →
       exec (.setVote q) s = answeredOnly q tag .ok .empty { s with votes := s.votes.set q true }) ∧
     (∀ q, pendingTag q .clearVote s = some tag →
       exec (.clearVote q) s = answeredOnly q tag .ok .empty { s with votes := s.votes.set q false }) ∧
     (∀ d, ltRuns s = true → c.calDue = some d → ltReached s.tbu.lt d = true →
       exec .calDue s = happened
         { s with csc := { c with calDue := none, cal := if c.cal = .idle then .waiting else c.cal } })) ∧
  (∀ (b : PolicyBody) (tag : BitVec 8) (s : State), pendingTag .P (.setPolicy b) s = some tag →
     let ok : Prop :=
       b.slumber ≠ .unknown ∧ b.thrift ≠ .unknown ∧ b.anchor ≠ .unknown ∧ ∀ c, b.c = some c → 8 ≤ c ∧ c ≤ 13
     let outside (lo hi : Nat) (v : Option Nat) : Prop := ∃ n, v = some n ∧ (n < lo ∨ hi < n)
     let clampedValue : Prop :=
       outside 0 8 b.creditMax ∨ outside 32 1024 b.refillFrames ∨ outside 0 26000 b.gRetune ∨ outside 0 26000 b.gTurn ∨
       outside 1 600 b.interval ∨ outside 1 255 b.settle
     let given (lo hi : Nat) (v : Option Nat) (old : Nat) : Nat := (v.map (fun n => max lo (min n hi))).getD old
     let flag (v : Coded Bool) (old : Bool) : Bool :=
       match v with
       | .val w => w
       | _ => old
     let anchor : Subscription :=
       match b.anchor with
       | .val y => y
       | _ => s.tbu.prefAnchor
     let air : AirSettings :=
       { creditMax := given 0 8 b.creditMax s.air.creditMax,
         refillFrames := given 32 1024 b.refillFrames s.air.refillFrames,
         gRetune := given 0 26000 b.gRetune s.air.gRetune, gTurn := given 0 26000 b.gTurn s.air.gTurn }
     let flags : Csc :=
       { s.csc with slumberPermitted := flag b.slumber s.csc.slumberPermitted,
                    thriftFlag := flag b.thrift s.csc.thriftFlag, settle := given 1 255 b.settle s.csc.settle }
     let exponent : Csc :=
       if b.c = none ∨ b.c = some s.csc.c then flags
       else { flags with c := b.c.getD 0, valid := false, suspect := false, f := 0, rescheduled := false,
                         cal := .waiting, calDue := none }
     let interval := given 1 600 b.interval s.csc.interval
     let due (e : LT) : LT := e + BitVec.ofNat 48 (interval * 26000000)
     let timed : Csc :=
       match b.interval, exponent.calDue, exponent.lastCalEnd with
       | some _, some _, some e =>
         if ltReached s.tbu.lt (due e) = true then
           { exponent with interval := interval, calDue := none,
                           cal := if exponent.cal = .idle then .waiting else exponent.cal }
         else { exponent with interval := interval, calDue := some (due e) }
       | _, _, _ => { exponent with interval := interval }
     let t : State :=
       { s with air := air, credit := { s.credit with credit := min s.credit.credit air.creditMax },
                tbu := { s.tbu with prefAnchor := anchor }, csc := timed }
     (¬ ok → exec (.setPolicy b) s = refusedWith .P tag .badValue s) ∧
     (ok → clampedValue → exec (.setPolicy b) s = tookEffect .P tag .clamped .empty (thriftTest (guardTest t))) ∧
     (ok → ¬ clampedValue → exec (.setPolicy b) s = tookEffect .P tag .ok .empty (thriftTest (guardTest t))))

/-- FETCH_NOTICES (R192) returns up to four notices, oldest first, with the overflow flag as it stood and the number left, and
removes them; the flag is cleared where none is left. PORT_RESET of the Application Port (R196) empties its queue, clears its
overflow flag and its vote, and nothing else. -/
def Obligations.FetchAndApplicationPortReset : Prop :=
  (∀ (q : Port) (tag : BitVec 8) (s : State), pendingTag q .fetchNotices s = some tag →
    let n := s.queues.get q
    exec (.fetchNotices q) s = answeredOnly q tag .ok (.notices (n.items.take 4) n.overflow (n.items.length - 4))
      { s with queues := s.queues.set q
                 { items := n.items.drop 4, overflow := if n.items.length ≤ 4 then false else n.overflow } }) ∧
  (∀ (tag : BitVec 8) (s : State), pendingTag .P .portReset s = some tag →
    exec .appPortReset s = answeredOnly .P tag .ok .empty
      { s with queues := s.queues.set .P { items := [], overflow := false }, votes := s.votes.set .P false })

/-- A transaction (R172, R173, R184, R185, R187, R188): its start makes the engine RECEIVING, in a slumber an early-wake event;
held in reset the engine ignores it; a frame of a catalogued kind with its length waits in PENDING, any other is answered
BAD_REQUEST, at its completion in every power state (log 15), and so is READ_CONTEXT with an empty body from the Application
Port, whose catalogued length is 1; its end makes the engine IDLE from any state; WAKE takes its level, and its rise is an
early-wake event. That CS_N falling in reset is recorded while the engine stays IDLE is the model's reading (log 16). -/
def Obligations.TransactionsAndWake : Prop :=
  ∀ (q : Port) (s : State),
    let woken (c : WakeCause) : Power :=
      if s.power.state = .slumber ∧ s.power.early = none then { s.power with early := some c } else s.power
    let low (v : Bool) : Pins := { s.pins with csLow := s.pins.csLow.set q v }
    (s.pins.csLow.get q = false → s.phase ≠ .held →
      exec (.transactionStart q) s =
        .next { s with engines := s.engines.set q .receiving, pins := low true, power := woken .transaction }) ∧
    (s.pins.csLow.get q = false → s.phase = .held →
      exec (.transactionStart q) s = .next { s with pins := low true }) ∧
    (∀ tag len req, s.engines.get q = .receiving →
      (∀ i r, req = some r → requestOf i = some (q, r) → len.toNat = bodyLength r → len.toNat ≤ 96 →
        ¬ (q = .P ∧ r = .readContext .absent) →
        exec (.requestFrameComplete q tag len req) s = .next { s with engines := s.engines.set q (.pending tag r) }) ∧
      ((∀ i r, req = some r → requestOf i = some (q, r) →
          len.toNat ≠ bodyLength r ∨ 96 < len.toNat ∨ (q = .P ∧ r = .readContext .absent)) →
        exec (.requestFrameComplete q tag len req) s = refusedWith q tag .badRequest s)) ∧
    (s.pins.csLow.get q = true →
      exec (.transactionEnd q) s = .next { s with engines := s.engines.set q .idle, pins := low false }) ∧
    (∀ level, exec (.wakeAsserted q level) s =
      .next { s with pins := { s.pins with wake := s.pins.wake.set q level },
                     power := if level = true ∧ s.pins.wake.get q = false then woken .wake else s.power })

/-- The outputs follow the state. ATTN of a port is asserted exactly while its queue holds a notice (R193), OSC_EN is low
exactly in SLUMBER, and REF_OUT runs exactly while LT counts (R164). Of all commands only the stop edge lowers OSC_EN, and
only the enable cycle, an early wake and RESET_N raise it (R168, R170, R172, R199); only the stop edge and RESET_N stop
REF_OUT, and only the end of a slumber and the first tick start it (R168, R171, R198). ATTN does not rise in SLUMBER or
WAKING but at the edge that restores LT (R193). The body of an answer holds 0 to 96 bytes, and its length byte says how many
(R185; the codes, and the length of a body with no printed layout, are free values, log 22). A notice record has 16 bytes,
its kind byte the one of its kind, and of LEASE_LOST, which has no detail, the bytes 8 to 15 are 0 (R190). -/
def Obligations.OutputsFollowTheState : Prop :=
  (∀ (q : Port) (s : State), attn q s = true ↔ ∃ n, n ∈ (s.queues.get q).items) ∧
  (∀ s : State, oscEn s = false ↔ s.power.state = .slumber) ∧
  (∀ s : State, refOut s = true ↔ s.phase = .running ∧ (s.power.state = .active ∨ s.power.state = .doze)) ∧
  (∀ (c : Instr) (s t : State), exec c s = .next t →
    (oscEn s = true → oscEn t = false → c = .stopEdge) ∧
    (oscEn s = false → oscEn t = true → c = .enableCycle ∨ c = .earlyWake ∨ c = .resetNAsserted) ∧
    (refOut s = true → refOut t = false → c = .stopEdge ∨ c = .resetNAsserted) ∧
    (refOut s = false → refOut t = true → c = .slumberEnd ∨ c = .firstRefTick) ∧
    (∀ q, s.phase = .running → s.power.state = .slumber ∨ s.power.state = .waking → c ≠ .slumberEnd →
      attn q s = false → attn q t = false)) ∧
  (∀ b : Body, (∀ items overflow left, b = .notices items overflow left → items.length ≤ 4) → (bodyBytes b).length ≤ 96) ∧
  (∀ a : Answer, (bodyBytes a.body).length ≤ 96 →
    ((answerBytes a)[3]?).map (·.toNat) = some (bodyBytes a.body).length) ∧
  (∀ n : Notice, (noticeBytes n).length = 16 ∧ (noticeBytes n).head? = some (noticeCode (noticeKind n.body)) ∧
    (n.body = .leaseLost → (noticeBytes n).drop 8 = List.replicate 8 0))

/-! ### Reset and bring-up (section 11-1) -/

/-- RESET_N puts every block at its after-reset values, held (R199), the input levels, the waiting commands and the free counter
apart (log 2, 6); its values in the rules' own figures. BRING_UP waits for the first tick, at which LT counts and POWER_UP
and STANDBY fall due (R198; STANDBY waits from the sending of POWER_UP, log 11), and changes of the battery state that
waited take effect (log 26). That LT is still 0 after that tick, so that POWER_UP is sent at 0 and settled at 52,000, is the
model's choice (log 7), and so is that BATTERY names no subscription (log 38). -/
def Obligations.ResetAndBringUp : Prop :=
  (∀ s : State,
    exec .resetNAsserted s = .next { State.reset with pins := s.pins, free := s.free, pending := s.pending }) ∧
  (let r := State.reset
   r.phase = .held ∧ r.tbu.lt = 0 ∧ r.tbu.trimWord = 4096 ∧ r.tbu.refTrim = 4096 ∧ r.tbu.prefAnchor = .A ∧ r.plan = [] ∧
   (∀ i : Fin 48, r.gens[i] = 0) ∧ (∀ x, (r.cxm.get x).state = .absent ∧ r.tbu.record.get x = none) ∧
   r.credit = { credit := 0, refill := 0 } ∧
   r.air = { creditMax := 2, refillFrames := 128, gRetune := 5200, gTurn := 1300 } ∧
   r.rsq.link = .up ∧ r.rsq.record = .down ∧ r.ceu.claim = none ∧ r.power.state = .doze ∧ r.csc.k = 812500 ∧
   r.csc.c = 10 ∧ r.csc.interval = 30 ∧ r.csc.settle = 66 ∧ r.csc.slumberPermitted = true ∧ r.csc.cal = .waiting ∧
   (∀ q, r.engines.get q = .idle ∧ r.queues.get q = { items := [], overflow := false } ∧ r.votes.get q = false)) ∧
  (∀ s : State, s.phase = .held → exec .bringUp s = .next { s with phase := .starting }) ∧
  (∀ s : State, s.phase = .starting → s.rsq.link = .up →
    let up : State :=
      { s with phase := .running, rsq := { s.rsq with waiting := s.rsq.waiting ++ [.powerUp false true] } }
    let told : State := s.csc.changes.foldl
      (fun u c => giveNotice .P { body := .battery c.1 c.2, sub := none, stamp := s.tbu.lt } u) up
    exec .firstRefTick s = happened (thriftTest { told with csc := { s.csc with changes := [] } })) ∧
  (∃ t : State, exec .firstRefTick { State.reset with phase := .starting } = .next t ∧ t.tbu.lt = 0 ∧
    t.rsq.inFlight = some (.powerUp false true, 0) ∧ t.rsq.waiting = [.standby] ∧ t.rsq.record = .ready ∧
    t.rsq.settledAt = some 52000)

/-! ### The sequencer (chapter 4) -/

/-- An entry's preparation, start and local end, but for what a MEASURE_GAP does at its start and end (R73, R74, R75): it
becomes PREPARING, when no gap holds it off (of a truncated one: log 14), with its TUNE due where the transceiver is ready
and settled by its start, and is aborted otherwise; where its start is reached already, and no entry is EXECUTING, it
becomes EXECUTING at that event (R2; log 29); it becomes EXECUTING with ON; it leaves the plan with OFF, its outcome to come
among the ended windows, DONE or TRUNCATED (a TX window too: log 10), and an ON of it that still waits is not sent, by the
model's choice (log 47). -/
def Obligations.EntryInstants : Prop :=
  ∀ (e : Entry) (s : State), ltRuns s = true →
    let inState (st : EntryState) : State :=
      { s with plan := s.plan.map (fun f => if f.handle = e.handle then { f with state := st } else f) }
    ((∀ f ∈ s.plan, f.state ≠ .preparing) → gapBlocks s = false →
      s.plan.find? (fun f => f.state == .admitted) = some e →
      ltReached s.tbu.lt (e.start - BitVec.ofNat 48 6500) = true →
      (s.rsq.link = .radioDown →
        exec .prepareEntry s = happened (abortEntry e .radioDown (inState .preparing))) ∧
      (∀ u, s.rsq.link = .up → s.rsq.record = .ready → s.rsq.settledAt = some u → ltReached e.start u = true →
        (∀ f ∈ s.plan, f.handle = e.handle → f = e) →
        let tune : Cmd := .tune (.entry e.handle) e.channel e.dir e.index e.txLevel
        (ltReached s.tbu.lt e.start = false → exec .prepareEntry s = happened
          (if e.kind = .measureGap then inState .preparing else demand tune (inState .preparing))) ∧
        (ltReached s.tbu.lt e.start = true → ltReached s.tbu.lt e.stop = false → e.kind ≠ .measureGap →
          (∀ f ∈ s.plan, f.state ≠ .executing) → exec .prepareEntry s =
            happened (demand (.on (.entry e.handle)) (demand tune (inState .executing))))) ∧
      (s.rsq.link = .up → s.rsq.record ≠ .ready ∨ (∀ u, s.rsq.settledAt = some u → ltReached e.start u = false) →
        exec .prepareEntry s = happened (abortEntry e .radio (inState .preparing)))) ∧
    ((∀ f ∈ s.plan, f.state ≠ .executing) → s.plan.find? (fun f => f.state == .preparing) = some e →
      ltReached s.tbu.lt e.start = true → e.kind ≠ .measureGap →
      exec .entryStart s = happened (demand (.on (.entry e.handle)) (inState .executing))) ∧
    (s.plan.find? (fun f => f.state == .executing) = some e → ltReached s.tbu.lt e.stop = true → e.kind ≠ .measureGap →
      let w : EndedWindow :=
        { entry := e, cause := if e.cut = true then .truncated else .done, stamp := e.stop, awaiting := 0 }
      let t := removeEntry e.handle s
      exec .entryEnd s = happened
        (demand (.off (.ended e.handle)) { t with rsq := { t.rsq with ended := t.rsq.ended ++ [w] } }))

/-- The windows of a MEASURE_GAP (R76, R77, R134): at its start the selection, the pointer at the first record taken, and the
first window's TUNE; a later window's TUNE at its instant, its ON a G_retune later, its OFF 13,000 ticks after that, while
the window closes by the gap's local end; at the local end the gap leaves, its outcome waiting for the reports still to
come; a window that closes at that very instant is closed with OFF to be read, and one still open after a truncation is
closed with OFF, the outcome waiting for that report or that OFF too. The model's choices are that the selection is kept
until the last report is used (log 8), that a window tuned and not open at a truncated end counts as not begun (log 14),
that a window counts as open once its ON is due (log 44), that a TUNE or ON that still waits when the gap leaves is not sent
(log 47), and that a gap PREPARING at a reselection switch starts with a void selection held for it (log 32). -/
def Obligations.GapWindows : Prop :=
  ∀ (e : Entry) (s : State), ltRuns s = true → e.kind = .measureGap →
    let x := e.owner
    let m := s.msu.get x
    let g0 := s.air.gRetune
    let sel := scan m.settings m.ring m.ring.length (min 3 ((e.stop - e.start).toNat / (g0 + 13000))) m.pointer m.round
    let n := sel.1.length
    let heldVoid : Bool :=
      match s.selection.get x with
      | some r => r.handle == e.handle && r.void
      | none => false
    let begun : GapRun :=
      { handle := e.handle, owner := x, count := n, guard := g0, index := 0,
        stage := if n = 0 then .tuneDue else .onDue, awaiting := 0 }
    let pointer : Nat × Nat :=
      match sel.1 with
      | t :: _ => (t.position, t.round)
      | [] => sel.2
    let tune : List Cmd :=
      match sel.1 with
      | t :: _ => [.tune (.gap e.handle 0) t.channel .rx none none]
      | [] => []
    ((∀ f ∈ s.plan, f.state ≠ .executing) → s.plan.find? (fun f => f.state == .preparing) = some e →
      ltReached s.tbu.lt e.start = true → s.rsq.link = .up →
      ∃ t : State, exec .entryStart s = happened t ∧
        t.selection = s.selection.set x (some
          { handle := e.handle, list := sel.1, next := 0, stopPosition := sel.2.1, stopRound := sel.2.2, void := heldVoid }) ∧
        t.msu = s.msu.set x { m with pointer := pointer.1, round := pointer.2 } ∧
        t.rsq = { s.rsq with waiting := s.rsq.waiting ++ tune, gap := some begun } ∧
        t.plan = s.plan.map (fun f => if f.handle = e.handle then
          { f with state := .executing, measureList := some (sel.1.map (·.position)) } else f)) ∧
    (∀ (g : GapRun) (r : Selection) (t : Taken), s.rsq.gap = some g →
      s.plan.find? (fun f => f.handle == g.handle) = some e → g.index < g.count →
      s.selection.get g.owner = some r → r.list[g.index]? = some t →
      let tuneAt : LT := e.start + BitVec.ofNat 48 (g.index * (g.guard + 13000))
      let onAt : LT := tuneAt + BitVec.ofNat 48 g.guard
      let closeAt : LT := tuneAt + BitVec.ofNat 48 (g.guard + 13000)
      let run (h : GapRun) : State := { s with rsq := { s.rsq with gap := some h } }
      ltReached e.stop closeAt = true →
      (g.stage = .tuneDue → ltReached s.tbu.lt tuneAt = true → exec .gapWindowTune s =
        happened (demand (.tune (.gap g.handle g.index) t.channel .rx none none) (run { g with stage := .onDue }))) ∧
      (g.stage = .onDue → ltReached s.tbu.lt onAt = true → exec .gapWindowOn s =
        happened (demand (.on (.gap g.handle g.index)) (run { g with stage := .opened }))) ∧
      (g.stage = .opened → ltReached s.tbu.lt closeAt = true → exec .gapWindowEnd s =
        happened (demand (.off (.gap g.handle g.index))
          (run { g with index := g.index + 1, stage := .tuneDue, awaiting := g.awaiting + 1 })))) ∧
    (∀ g : GapRun, s.plan.find? (fun f => f.state == .executing) = some e → ltReached s.tbu.lt e.stop = true →
      s.rsq.gap = some g → g.handle = e.handle → s.plan.find? (fun f => f.handle == g.handle) = some e →
      let w (n : Nat) : EndedWindow :=
        { entry := e, cause := if e.cut = true then .truncated else .done, stamp := e.stop, awaiting := n }
      let waiting (n : Nat) (u : State) : State := { u with rsq := { u.rsq with ended := u.rsq.ended ++ [w n] } }
      (g.count ≤ g.index ∨ g.stage ≠ .opened → exec .entryEnd s = happened
        (if g.awaiting = 0 then handOn (w 0) none (removeEntry e.handle s)
         else waiting g.awaiting (removeEntry e.handle s))) ∧
      (g.index < g.count → g.stage = .opened →
        ltReached e.stop (e.start + BitVec.ofNat 48 (g.index * (g.guard + 13000)) + BitVec.ofNat 48 (g.guard + 13000)) = false →
        exec .entryEnd s = happened
          (waiting (g.awaiting + 1) (removeEntry e.handle (demand (.off (.gapCut e.handle)) s)))) ∧
      (g.index < g.count → g.stage = .opened →
        let closeAt : LT := e.start + BitVec.ofNat 48 (g.index * (g.guard + 13000)) + BitVec.ofNat 48 (g.guard + 13000)
        ltReached e.stop closeAt = true → ltReached s.tbu.lt closeAt = true →
        let closed : GapRun := { g with index := g.index + 1, stage := .tuneDue, awaiting := g.awaiting + 1 }
        exec .entryEnd s = happened (waiting (g.awaiting + 1) (removeEntry e.handle
          (demand (.off (.gap g.handle g.index)) { s with rsq := { s.rsq with gap := some closed } })))))

/-- The would-be end of a lost occurrence ends its turn, and the next occurrence is due; every would-be end reached at the same
LT is taken with it, so that the next occurrences come in the order of R62 (R61, R62; log 39); the activity need, within
26,000 ticks or with an entry PREPARING or EXECUTING, makes DOZE ACTIVE with POWER_UP, and ends a pending slumber entry and
the wake target (R71, R165, R167, R168). -/
def Obligations.LostOccurrencesAndActivity : Prop :=
  ∀ s : State, ltRuns s = true →
    (∀ (x : Subscription) (k : Pat) (start stop : LT), (patternOf x k s).pending = .lost start stop →
      ltReached s.tbu.lt stop = true →
      let ended (p : Pattern) : Pattern :=
        match p.pending with
        | .lost st en => if ltReached s.tbu.lt en = true then { p with pending := .due st } else p
        | _ => p
      let all (p : Patterns) : Patterns := { p with page := ended p.page, call := ended p.call, meas := ended p.meas }
      exec (.lostOccurrenceEnd x k) s =
        happened { s with patterns := { a := all s.patterns.a, b := all s.patterns.b } }) ∧
    (s.power.state = .doze →
      (∃ e ∈ s.plan, e.state ≠ .admitted) ∨
        (∃ n, activityNeed s = some n ∧ ltReached s.tbu.lt (n - BitVec.ofNat 48 26000) = true) →
      exec .activityNeedReached s = happened (demand (.powerUp false false)
        { s with power := { s.power with state := .active, entry := none, wakeTarget := none } }))

/-- The sending of commands on the link (R68 to R72, R80, R82 to R84). A command falls due only while the link is UP. Nothing is
sent while a command is in flight (R69), nor while an event of the device's own that may bring a command is due at this LT,
by the model's reading of R69 (log 39). A recovery OFF that is owed goes first (R80). Of the commands that may be sent the
first of the lowest order is sent, of two of one place the one that has waited longer, by the model's choice, as the
recovery OFF before another (log 46): OFF, ON, READ_REPORT, TUNE, the power commands as they were asked for, PROBE; window
commands need the record READY, an ON waits for its own TUNE, and in RADIO_DOWN PROBE alone is sent (R68, R69, R82). What a
sending changes: the record, settled-at, the STANDBY that follows a POWER_UP unless the CSC is ACTIVE, the next probe time
and the number of probes (R70 to R72, R83). A power command whose record value holds is passed over when it comes to be
sent, by the model's reading (R71; log 11), a POWER_DOWN so passed over being answered (R72). With nothing else to be sent
the trim word is, until it is delivered, with no entry PREPARING or EXECUTING and the record not DOWN (R84). -/
def Obligations.CommandsAreSentInOrder : Prop :=
  (∀ (c : Cmd) (s : State),
    (s.rsq.link = .up → demand c s = { s with rsq := { s.rsq with waiting := s.rsq.waiting ++ [c] } }) ∧
    (s.rsq.link = .radioDown → demand c s = s)) ∧
  (∀ s : State, ltRuns s = true → (instantDue s = true ↔ ∃ i ∈ dueRows s,
    i = .entryStart ∨ i = .entryEnd ∨ i = .gapWindowTune ∨ i = .gapWindowOn ∨ i = .gapWindowEnd ∨ i = .wakeTarget ∨
    i = .probeTime ∨ ∃ x, i = .frameStart x ∨ i = .confirmDeadline x ∨ i = .leaseDeadline x ∨
      ∃ k, i = .lostOccurrenceEnd x k)) ∧
  ∀ s : State,
    let r := s.rsq
    let free : Prop := ltRuns s = true ∧ r.inFlight = none ∧ instantDue s = false
    let owes : Prop := r.recoveryOwed = true ∧ r.link = .up ∧ r.record = .ready
    let window (c : Cmd) : Prop := c.kind = .off ∨ c.kind = .on ∨ c.kind = .readReport ∨ c.kind = .tune
    let may (c : Cmd) : Prop :=
      c = .probe ∨ (r.link = .up ∧ (window c → r.record = .ready) ∧
        ∀ t, c = .on t → ∀ ch d i l, .tune t ch d i l ∉ r.waiting)
    let order (c : Cmd) : Nat :=
      match c.kind with
      | .off => 1
      | .on => 2
      | .readReport => 3
      | .tune => 4
      | .powerUp => 5
      | .standby => 5
      | .powerDown => 5
      | .probe => 6
      | .trim => 7
    let sent (c : Cmd) (u : Rsq) : State := { s with rsq := { u with inFlight := some (c, s.tbu.lt) } }
    (¬ free → dispatch s = s) ∧
    (free → owes → dispatch s = sent (.off .recovery) r) ∧
    (∀ c before after, free → ¬ owes → r.waiting = before ++ c :: after → may c →
      (∀ d ∈ before, may d → order c < order d) → (∀ d ∈ after, may d → order c ≤ order d) →
      let rest : Rsq := { r with waiting := before ++ after }
      let passed : State := { s with rsq := rest }
      (window c ∨ c.kind = .trim → dispatch s = sent c rest) ∧
      (c = .probe → dispatch s = sent c
        { rest with probeTime := some (s.tbu.lt + BitVec.ofNat 48 2080000), probes := r.probes + 1 }) ∧
      (c = .standby → dispatch s = if r.record = .standby then dispatch passed else sent c { rest with record := .standby }) ∧
      (c = .powerDown → dispatch s =
        if r.record = .down then
          dispatch { passed with power :=
            { s.power with entry := s.power.entry.map (fun e => { e with answered := true }) } }
        else sent c { rest with record := .down, settledAt := none }) ∧
      (∀ fromDown thenStandby, c = .powerUp fromDown thenStandby →
        let up (at_ : Option LT) : State :=
          sent c { rest with record := .ready, settledAt := at_,
                             waiting := if thenStandby = true ∧ s.power.state ≠ .active then before ++ after ++ [.standby]
                                        else before ++ after }
        let lead : LT := s.tbu.lt + BitVec.ofNat 48 13000
        (fromDown = false → r.record = .ready → dispatch s = dispatch passed) ∧
        (fromDown = true ∨ r.record = .down → dispatch s = up (some (s.tbu.lt + BitVec.ofNat 48 52000))) ∧
        (fromDown = false → r.record = .standby → r.settledAt = none → dispatch s = up (some lead)) ∧
        (∀ u, fromDown = false → r.record = .standby → r.settledAt = some u →
          dispatch s = up (some (if ltReached u lead = true then u else lead))))) ∧
    (free → ¬ owes → (∀ c ∈ r.waiting, ¬ may c) →
      let trim : Prop :=
        s.tbu.delivered = false ∧ r.link = .up ∧ r.record ≠ .down ∧ (∀ e ∈ s.plan, e.state = .admitted) ∧ r.waiting = [] ∧
        r.recoveryOwed = false
      (trim → dispatch s = sent (.trim s.tbu.trimWord) r) ∧ (¬ trim → dispatch s = s))

/-- An acknowledge in time of the command in flight frees the link, clears the indicator and sets the fault count to 0 (R69,
R80). Of OFF: a transmit window's outcome, which stood among the ended windows till then (log 10), is handed on, a receive
window's report is read next, a recovery is no longer owed. Of POWER_DOWN: the slumber request is answered (R72). Of TRIM:
delivered, if it carried the current word (R84). Of PROBE: the link is UP, told to the three ports, POWER_UP is sent at that
event and STANDBY waits from then on unless the CSC is ACTIVE (log 11), and the word is to be delivered again (R83). Of the
OFF that closed a window at a gap's truncated end: one thing less is waited for, since the outcome waits for that OFF by the
model's reading (R76, R77; log 14). The probe time makes PROBE due. An acknowledge at 260 ticks is in time by the model's
choice (log 19). -/
def Obligations.LinkAcknowledges : Prop :=
  (∀ (c : Cmd) (sent : LT) (s : State), ltRuns s = true → s.rsq.inFlight = some (c, sent) →
    ltReached (sent + BitVec.ofNat 48 260) s.tbu.lt = true →
    let freed : Rsq := { s.rsq with inFlight := none, indicator := false, faults := 0 }
    let t : State := { s with rsq := freed }
    (∀ k, c.kind ≠ ackedKind k → exec (.rclAck k) s = .next s) ∧
    (∀ k, c.kind = ackedKind k → k ≠ .off → k ≠ .powerDown → exec (.rclAck k) s = happened t) ∧
    (c = .powerDown → exec (.rclAck .powerDown) s = happened
      { t with power := { s.power with entry := s.power.entry.map (fun e => { e with answered := true }) } }) ∧
    (c = .off .none → exec (.rclAck .off) s = happened t) ∧
    (c = .off .recovery → exec (.rclAck .off) s = happened { t with rsq := { freed with recoveryOwed := false } }) ∧
    (∀ h w, c = .off (.ended h) → s.rsq.ended.find? (fun v => v.entry.handle == h) = some w →
      exec (.rclAck .off) s = happened
        (if w.entry.dir = .tx then
          handOn w none
            { t with rsq := { freed with ended := s.rsq.ended.filter (fun v => v.entry.handle != h) } }
         else demand (.readReport (.ended h)) t)) ∧
    (∀ h i g, c = .off (.gap h i) → s.rsq.gap = some g → g.handle = h →
      exec (.rclAck .off) s = happened (demand (.readReport (.gap h i)) t)) ∧
    (∀ w, c = .trim w → exec .trimAck s = happened
      { t with tbu := { s.tbu with delivered := if w = s.tbu.trimWord then true else s.tbu.delivered } }) ∧
    (c = .probe →
      let n : Notice := { body := .radioUp s.rsq.probes, sub := none, stamp := s.tbu.lt }
      let up : State :=
        { s with rsq := { freed with link := .up, probeTime := none, waiting := [] },
                 queues := ((s.queues.upd .A (·.push n)).upd .B (·.push n)).upd .P (·.push n) }
      let v := choosePower up
      let rsq : Rsq :=
        { v.rsq with record := .ready, settledAt := some (s.tbu.lt + BitVec.ofNat 48 52000),
                     inFlight := some (.powerUp true true, s.tbu.lt),
                     waiting := if v.power.state = .active then v.rsq.waiting else v.rsq.waiting ++ [.standby] }
      exec .probeAck s = happened { v with tbu := { s.tbu with delivered := false }, rsq := rsq }) ∧
    (∀ h w, c = .off (.gapCut h) → s.rsq.ended.find? (fun v => v.entry.handle == h) = some w →
      exec (.rclAck .off) s = happened
        (if w.awaiting ≤ 1 then
          handOn w none { t with rsq := { freed with ended := s.rsq.ended.filter (fun v => v.entry.handle != h) } }
         else
          let less (v : EndedWindow) : EndedWindow :=
            if v.entry.handle = h then { v with awaiting := v.awaiting - 1 } else v
          { t with rsq := { freed with ended := s.rsq.ended.map less } }))) ∧
  (∀ (d : LT) (s : State), ltRuns s = true → s.rsq.link = .radioDown → s.rsq.probeTime = some d →
    ltReached s.tbu.lt d = true → Cmd.probe ∉ s.rsq.waiting →
    exec .probeTime s = happened { s with rsq := { s.rsq with waiting := s.rsq.waiting ++ [.probe] } })

/-- A window's report, its level and metric brought into their ranges, hands on the outcome of a window that has left the plan,
or is a result of the executing gap (R76, R78). A command not acknowledged in 260 ticks is a fault (R69, R79, R80): it is
counted, and an entry whose TUNE or ON it was is aborted with RADIO, a faulted ON or OFF leaving a recovery owed; the third
makes the link RADIO_DOWN with the probe time 2,080,000 ticks later and nothing waiting (R81). In RADIO_DOWN a PROBE that
faults sets the indicator and leaves the count at 3, and the link down (R83). That a report at exactly 260
ticks is in time, and a fault is due from then on, is the model's choice (log 19). -/
def Obligations.ReportsAndFaults : Prop :=
  (∀ (sent : LT) (level metric : Int) (s : State), ltRuns s = true →
    ltReached (sent + BitVec.ofNat 48 260) s.tbu.lt = true →
    let t : State := { s with rsq := { s.rsq with inFlight := none, indicator := false, faults := 0 } }
    let lv : Int := max (-300) (min level (-40))
    (∀ h w, s.rsq.inFlight = some (.readReport (.ended h), sent) →
      s.rsq.ended.find? (fun v => v.entry.handle == h) = some w →
      exec (.readReportAck level metric) s = happened
        (handOn w (some (lv, max 0 (min metric 255)))
          { t with rsq := { t.rsq with ended := s.rsq.ended.filter (fun v => v.entry.handle != h) } })) ∧
    (∀ h i g, s.rsq.inFlight = some (.readReport (.gap h i), sent) →
      (∀ v ∈ s.rsq.ended, v.entry.handle ≠ h) → s.rsq.gap = some g → g.handle = h →
      let u := neighbourResult g.owner h i lv t
      exec (.readReportAck level metric) s = happened
        { u with rsq := { t.rsq with gap := some { g with awaiting := g.awaiting - 1 } } })) ∧
  (∀ (c : Cmd) (sent : LT) (s : State), ltRuns s = true → s.rsq.inFlight = some (c, sent) →
    ltReached s.tbu.lt (sent + BitVec.ofNat 48 260) = true →
    let counted : State :=
      { s with rsq := { s.rsq with inFlight := none, indicator := true, faults := min 3 (s.rsq.faults + 1) } }
    let owed (u : State) : State := { u with rsq := { u.rsq with recoveryOwed := true } }
    (s.rsq.faults < 2 →
      (c.kind = .powerUp ∨ c.kind = .standby ∨ c.kind = .trim ∨ c.kind = .probe →
        exec .linkFault s = happened counted) ∧
      (∀ h e ch d i l, c = .tune (.entry h) ch d i l → s.plan.find? (fun f => f.handle == h) = some e →
        exec .linkFault s = happened (abortEntry e .radio counted)) ∧
      (∀ h e, c = .on (.entry h) → s.plan.find? (fun f => f.handle == h) = some e →
        exec .linkFault s = happened (owed (abortEntry e .radio counted))) ∧
      (c = .off .none ∨ c = .off .recovery → exec .linkFault s = happened (owed counted)) ∧
      (c = .powerDown → exec .linkFault s = happened
        { counted with power :=
            { s.power with entry := s.power.entry.map (fun e => { e with answered := true }) } })) ∧
    (2 ≤ s.rsq.faults → s.rsq.link = .up → ∃ t : State, exec .linkFault s = happened t ∧ t.rsq.link = .radioDown ∧
      t.rsq.faults = 3 ∧ t.rsq.indicator = true ∧ t.rsq.probeTime = some (s.tbu.lt + BitVec.ofNat 48 2080000) ∧
      t.rsq.probes = 0 ∧ t.rsq.waiting = [] ∧ t.rsq.ended = [] ∧ t.rsq.recoveryOwed = false ∧ t.rsq.inFlight = none ∧
      t.tbu = s.tbu ∧ t.cxm = s.cxm ∧ t.csc = s.csc) ∧
    (c = .probe → s.rsq.link = .radioDown → s.rsq.faults = 3 → exec .linkFault s = happened
      { s with rsq := { s.rsq with inFlight := none, indicator := true, faults := 3 } }))

/-- A link fault by the command that faulted, below the third (R76, R77, R79): the TUNE, ON and OFF of a gap's window abort the
gap with RADIO while it is in the plan, and its outcome once it has left; so does the OFF that closed a window at a
truncated end; the OFF of an ended window leaves a cancelled one-shot's outcome without a report, and closes any other as
lost, as a READ_REPORT does a cancelled one too (log 10); ON and OFF leave a recovery owed; a READ_REPORT closes an ended
window as lost, and a gap's aborts it with the open window closed by OFF. A report of a gap that has left the plan is a
result, and with the last one its outcome is handed on (R76, R78): the model's choices are that the selection is kept until
then, where R136 has it none (log 8), and that the report at exactly 260 ticks is in time (log 19); the OFF of a window cut
at a truncated end is that of log 14.
That a gap's window counts as open once its ON is due, and that an aborted gap brings OFF only for an open window, are
choices too (log 41, 44), and that a TUNE or ON of an aborted entry that still waits is not sent (log 47).
An aborted entry leaves the plan, a member of its call frame that has not started with it, and its loss is told: ABORTED for
a one-shot, PAGE_MISSED for a LISTEN, whose own record goes (log 9), and a PAGE_READ, the loss held to the end of the turn
for a gap and a call frame, SYNC_DONE for a SYNC (R49, R52, R62, R100, R150).
At RADIO_DOWN every entry that is PREPARING or EXECUTING is aborted so with reason RADIO_DOWN, in plan order (log 42), after
the one whose TUNE faulted with reason RADIO; then the ended windows are closed as lost, in their order, a LISTEN with an
absent report; RADIO_DOWN is told to the three ports, and a slumber request is answered (R72, R81; log 11). With one-shots
alone in the plan the ADMITTED entries stay, and nothing else does. -/
def Obligations.FaultsByCommand : Prop :=
  (∀ (c : Cmd) (sent : LT) (s : State), ltRuns s = true → s.rsq.inFlight = some (c, sent) →
    ltReached s.tbu.lt (sent + BitVec.ofNat 48 260) = true → s.rsq.faults < 2 →
    let counted : State :=
      { s with rsq := { s.rsq with inFlight := none, indicator := true, faults := s.rsq.faults + 1 } }
    let owed (u : State) : State := { u with rsq := { u.rsq with recoveryOwed := true } }
    let dropped (h : Handle) : State :=
      { counted with rsq := { counted.rsq with ended := s.rsq.ended.filter (fun v => v.entry.handle != h) } }
    let inGap (h : Handle) (u : State) : Prop :=
      (∀ e, s.plan.find? (fun f => f.handle == h) = some e → u = abortEntry e .radio counted) ∧
      (∀ w, (∀ e ∈ s.plan, e.handle ≠ h) → s.rsq.ended.find? (fun v => v.entry.handle == h) = some w →
        u = failEnded w (dropped h))
    (∀ h i ch d ix l, c = .tune (.gap h i) ch d ix l → ∃ u, exec .linkFault s = happened u ∧ inGap h u) ∧
    (∀ h i, c = .on (.gap h i) ∨ c = .off (.gap h i) → ∃ u, exec .linkFault s = happened (owed u) ∧ inGap h u) ∧
    (∀ h, c = .off (.gapCut h) → ∃ u, exec .linkFault s = happened (owed u) ∧ inGap h u) ∧
    (∀ h w, c = .off (.ended h) → s.rsq.ended.find? (fun v => v.entry.handle == h) = some w →
      exec .linkFault s = happened (owed
        (if w.cause = .cancelled then handOn w none (dropped h) else failEnded w (dropped h)))) ∧
    (∀ h w, c = .readReport (.ended h) → s.rsq.ended.find? (fun v => v.entry.handle == h) = some w →
      exec .linkFault s = happened (failEnded w (dropped h))) ∧
    (∀ h i, c = .readReport (.gap h i) →
      (∀ e, s.plan.find? (fun f => f.handle == h) = some e → e.state = .executing → e.kind = .measureGap →
        let open_ : Prop := ∃ g, s.rsq.gap = some g ∧ g.handle = h ∧ g.stage = .opened ∧ g.index < g.count
        let unread : State :=
          { counted with rsq := { counted.rsq with waiting := s.rsq.waiting.filter (fun k => !isReadOf h k) } }
        (open_ → exec .linkFault s = happened (abortEntry e .radio (demand (.off .none) unread))) ∧
        (¬ open_ → exec .linkFault s = happened (abortEntry e .radio unread))) ∧
      (∀ w, (∀ e ∈ s.plan, e.handle ≠ h) → s.rsq.ended.find? (fun v => v.entry.handle == h) = some w →
        exec .linkFault s = happened (failEnded w (dropped h))))) ∧
  (∀ (h : Handle) (i : Nat) (w : EndedWindow) (sent : LT) (level metric : Int) (s : State), ltRuns s = true →
    ltReached (sent + BitVec.ofNat 48 260) s.tbu.lt = true → s.rsq.inFlight = some (.readReport (.gap h i), sent) →
    s.rsq.ended.find? (fun v => v.entry.handle == h) = some w →
    let t : State := { s with rsq := { s.rsq with inFlight := none, indicator := false, faults := 0 } }
    let u := neighbourResult w.entry.owner h i (max (-300) (min level (-40))) t
    exec (.readReportAck level metric) s = happened
      (if w.awaiting ≤ 1 then
        handOn w none { u with rsq := { u.rsq with ended := s.rsq.ended.filter (fun v => v.entry.handle != h) } }
       else
        { u with rsq := { u.rsq with ended := s.rsq.ended.map (fun v =>
            if v.entry.handle = h then { v with awaiting := v.awaiting - 1 } else v) } })) ∧
  (∀ (c : Cmd) (sent : LT) (s : State), ltRuns s = true → s.rsq.inFlight = some (c, sent) →
    ltReached s.tbu.lt (sent + BitVec.ofNat 48 260) = true → 2 ≤ s.rsq.faults → s.rsq.link = .up →
    c.kind = .standby ∨ c.kind = .powerUp ∨ c.kind = .trim →
    slotsDistinct s.plan = true → (∀ e ∈ s.plan, e.origin = .oneShot ∧ e.partner = none) →
    (∀ w ∈ s.rsq.ended, w.entry.origin = .oneShot) →
    let lost (why : Reason) (at_ : LT) (q : PerPort NoticeQueue) (e : Entry) : PerPort NoticeQueue :=
      q.upd e.owner.port (fun n => n.push
        { body := .aborted { handle := e.handle, kind := e.kind, reason := some why, level := none }, sub := some e.owner,
          stamp := at_ })
    let aborted := (s.plan.filter (fun e => e.state != .admitted)).foldl (lost .radioDown s.tbu.lt) s.queues
    let closed := s.rsq.ended.foldl (fun q w => lost .radio w.stamp q w.entry) aborted
    let n : Notice := { body := .radioDown c.kind, sub := none, stamp := s.tbu.lt }
    ∃ t : State, exec .linkFault s = happened t ∧ t.plan = s.plan.filter (fun e => e.state == .admitted) ∧
      t.queues = ((closed.upd .A (·.push n)).upd .B (·.push n)).upd .P (·.push n) ∧ t.rsq.ended = []) ∧
  (∀ (e : Entry) (r : Reason) (s : State), r ≠ .priority →
    let x := e.owner
    let gone := removeEntry e.handle s
    let loss : LossDetail := { kind := e.kind, frame := e.frame.getD { fn := 0, fp := 0 }, reason := r }
    let tell (b : NoticeBody) : State := giveNotice x.port { body := b, sub := some x, stamp := s.tbu.lt } gone
    (e.partner = none →
      (e.origin = .oneShot → abortEntry e r s =
        tell (.aborted { handle := e.handle, kind := e.kind, reason := some r, level := none })) ∧
      (∀ q, e.origin = .page → (s.pgu.get x).listens.find? (fun q => q.handle == e.handle) = some q →
        abortEntry e r s = memberGone x .page e.handle none
          { pageMissed x e.kind q.frame r gone with pgu := s.pgu.set x { s.pgu.get x with
              listens := (s.pgu.get x).listens.filter (fun q => q.handle != e.handle) } }) ∧
      (∀ q, e.origin = .pageRead → (s.pgu.get x).read = some q → q.handle = e.handle →
        abortEntry e r s = { pageMissed x e.kind q.readFrame r gone with
          pgu := s.pgu.set x { s.pgu.get x with read := none } }) ∧
      (e.origin = .meas → abortEntry e r s = memberGone x .meas e.handle (some loss)
        { gone with selection := s.selection.set x ((s.selection.get x).filter (fun v => v.handle != e.handle)) }) ∧
      (e.origin = .sync → abortEntry e r s = tell (.syncAborted r))) ∧
    (∀ p, e.origin = .call → e.partner = some p.handle → p.handle ≠ e.handle →
      s.plan.find? (fun f => f.handle == p.handle) = some p → p.origin = .call → p.owner = x → p.partner = some e.handle →
      abortEntry e r s = memberGone x .call e.handle (some loss)
        (if p.state = .executing then gone else memberGone x .call p.handle none (removeEntry p.handle gone))) ∧
    (∀ h, e.origin = .call → e.partner = some h → (∀ f ∈ s.plan, f.handle ≠ h) →
      abortEntry e r s = memberGone x .call e.handle (some loss) gone)) ∧
  (∀ (c : Cmd) (sent : LT) (s u : State), ltRuns s = true → s.rsq.inFlight = some (c, sent) →
    ltReached s.tbu.lt (sent + BitVec.ofNat 48 260) = true → 2 ≤ s.rsq.faults → s.rsq.link = .up →
    let counted : State := { s with rsq := { s.rsq with inFlight := none, indicator := true, faults := 3 } }
    ((c.kind = .standby ∨ c.kind = .powerUp ∨ c.kind = .trim) ∧ u = counted) ∨
      (∃ h ch d ix l e, c = .tune (.entry h) ch d ix l ∧ s.plan.find? (fun f => f.handle == h) = some e ∧
        u = abortEntry e .radio counted) →
    let down : State :=
      { u with rsq := { u.rsq with link := .radioDown, ended := [], recoveryOwed := false, waiting := [], probes := 0,
                                   probeTime := some (s.tbu.lt + BitVec.ofNat 48 2080000) } }
    let aborted : State := (u.plan.filter (fun e => e.state != .admitted)).foldl (fun v e =>
      if v.plan.any (fun f => f.handle == e.handle) then abortEntry e .radioDown v else v) down
    let closed : State := u.rsq.ended.foldl (fun v w => failEnded w v) aborted
    let n : Notice := { body := .radioDown c.kind, sub := none, stamp := s.tbu.lt }
    exec .linkFault s = happened
      { closed with queues := ((closed.queues.upd .A (·.push n)).upd .B (·.push n)).upd .P (·.push n),
                    power := { s.power with entry := s.power.entry.map (fun e => { e with answered := true }) } })

/-! ### Sleep, calibration, battery (chapter 9) -/

/-- The activity need and the slumber need (R166) are the earliest of their sources, and none where there is no source: the
first ADMITTED entry's start less 19,500 and less 71,500 ticks; every registered deadline, that is the exchange, lease and confirm
deadlines, the would-be ends of lost occurrences, the probe time and calibration due (R2); the frame start of a switch frame
waited for (R159); with a claim and the credit below credit_max the frame start that fills the refill count, and the frame start
at which a staged call pattern becomes active (R121). That a pending slew moves the frame starts after the next one is the
model's reading (log 20). Nothing else is a need. -/
def Obligations.NeedsAreTheEarliestSources : Prop :=
  ∀ s : State,
    let frameStart (b : Timebase) (n : Nat) : LT :=
      b.ltRef + BitVec.ofNat 48 (n * 260000) + (if n ≤ 1 then 0 else BitVec.ofInt 48 (b.slew.getD 0))
    let switchFrame (x : Subscription) (f : FN) : Prop :=
      (∃ r, (s.hou.get x).record = some r ∧ r.phase = .armed ∧ r.fnS = f) ∨
      ((s.hou.get x).record = none ∧ ∃ r, (s.hou.get x).reselect = some r ∧ r.fnS = f)
    let ofTimebase (x : Subscription) (b : Timebase) (t : LT) : Prop :=
      (∃ f, switchFrame x f ∧ (f - b.fnRef).toNat < 2048 ∧
        t = b.ltRef + BitVec.ofNat 48 ((f - b.fnRef).toNat * 260000) + BitVec.ofInt 48 (b.slew.getD 0)) ∨
      (s.ceu.claim = some x ∧ s.credit.credit < s.air.creditMax ∧
        t = frameStart b (max 1 (s.air.refillFrames - s.credit.refill))) ∨
      ((s.ceu.items.get x).staged ≠ none ∧ t = frameStart b (8 - b.fnRef.toNat % 8))
    let source (lead : Nat) (t : LT) : Prop :=
      (∃ e, s.plan.find? (fun e => e.state == .admitted) = some e ∧ t = e.start - BitVec.ofNat 48 lead) ∨
      (∃ x, (s.cxm.get x).exchangeDeadline = some t ∨ (s.cxm.get x).leaseDeadline = some t ∨
        (∃ r, (s.hou.get x).record = some r ∧ r.confirm = some t) ∨
        (∃ k st, (patternOf x k s).pending = .lost st t)) ∨
      s.rsq.probeTime = some t ∨ s.csc.calDue = some t ∨
      (∃ x b, s.tbu.record.get x = some b ∧ ofTimebase x b t)
    let earliest (lead : Nat) (need : Option LT) : Prop :=
      (need = none ↔ ∀ t, ¬ source lead t) ∧
      (∀ t, need = some t → source lead t ∧
        ∀ b : LT, (∀ u, source lead u → (u - b).toNat < 2 ^ 47) → ∀ u, source lead u → (t - b).toNat ≤ (u - b).toNat)
    earliest 19500 (activityNeed s) ∧ earliest 71500 (slumberNeed s)

/-- A slumber from its entry to its wake (R168, R169, R170, R172): the tests 1 to 6 (a CS_N low from before a reset holds
slumber off: log 16); the entry pending, with POWER_DOWN asked for unless the answer comes at once; at the stop edge SLUMBER
with its record and a calibration under way abandoned, or awake with the slumber need as wake target, one already reached
having the transceiver powered up at that event (R2, R72; log 29); WAKING at the enable cycle, or at an edge that takes an
early-wake event. That the edges are commands is the model's choice (log 5), and so are the calibration interval as the wake
target of a stop edge that fails with no need (log 26), a wake target reached with the record not DOWN (log 43), the asking
for POWER_DOWN with the record DOWN while commands wait (log 11), and that an answered entry stands though the link has come
UP since (log 37). -/
def Obligations.SlumberFromEntryToWaking : Prop :=
  ∀ s : State,
    let c := s.csc
    let w : LT := (slumberNeed s).getD (s.tbu.lt + BitVec.ofNat 48 (c.interval * 26000000))
    let n : Nat := if ltAfter w s.tbu.lt = true then (w - s.tbu.lt).toNat * 2 ^ c.c / c.k else 0
    let tests : Prop :=
      c.slumberPermitted = true ∧ (∀ q, s.votes.get q = false ∧ s.pins.wake.get q = false ∧ s.pins.csLow.get q = false) ∧
      c.valid = true ∧ c.suspect = false ∧ ¬ (c.cal ≠ .idle ∧ c.rescheduled = true) ∧ c.settle + 16 ≤ n
    let entry (answered : Bool) : Power :=
      { s.power with entry := some { answered := answered, batteryChanged := false } }
    (ltRuns s = true → s.power.state = .doze → s.power.entry = none → tests →
      (s.rsq.link = .radioDown ∨ (s.rsq.record = .down ∧ s.rsq.waiting = []) →
        exec .slumberEntry s = happened { s with power := entry true }) ∧
      (s.rsq.link = .up → s.rsq.record ≠ .down ∨ s.rsq.waiting ≠ [] →
        exec .slumberEntry s = happened
          { s with power := entry false, rsq := { s.rsq with waiting := s.rsq.waiting ++ [.powerDown] } })) ∧
    (∀ e, ltRuns s = true → s.power.state = .doze → s.power.entry = some e → e.answered = true →
      (tests → e.batteryChanged = false →
        let r : SlumberRecord := { l0 := s.tbu.lt, w := w, s := n, enable := n - c.settle, cycles := 0, early := none }
        exec .stopEdge s = .next
          { s with power := { s.power with state := .slumber, entry := none, record := some r, early := none,
                                           wakeTarget := some w },
                   csc := if c.cal = .idle then c else { c with cal := .idle, rescheduled := true } }) ∧
      (¬ tests ∨ e.batteryChanged = true →
        let awake (target : Option LT) : State := { s with power := { s.power with entry := none, wakeTarget := target } }
        exec .stopEdge s = happened
          (if ltReached s.tbu.lt w = false then awake (some w)
           else if s.rsq.record = .down then demand (.powerUp false true) (awake none) else awake none))) ∧
    (∀ r, s.power.state = .slumber → s.power.record = some r →
      let waking (early : Option WakeCause) : Power :=
        let r' : SlumberRecord := { r with cycles := r.cycles + 1, early := early.map (fun v => (r.cycles + 1, v)) }
        { s.power with state := .waking, record := some r', early := none }
      (r.cycles + 1 = r.enable → exec .enableCycle s = .next { s with power := waking s.power.early }) ∧
      (∀ v, s.power.early = some v → exec .earlyWake s = .next { s with power := waking (some v) }))

/-- The last edge of a slumber restores LT to L0 + E with E and the new F from the cycles counted (R3, R170, R171); where the
jump passed nothing, the power state is DOZE with the last slumber recorded, and nothing else changes. E never passes the
wake target, and falls short of it by less than one cycle and one tick. The wake target, reached, has the transceiver powered up
where its record is DOWN (R72, R167); with another record it becomes none and nothing is sent, by the model's choice (log 43). -/
def Obligations.SlumberEndRestoresLocalTime : Prop :=
  (∀ (r : SlumberRecord) (s : State), s.power.state = .waking → s.power.record = some r →
    let c := s.csc
    let last : Nat :=
      match r.early with
      | some (n, _) => n + c.settle
      | none => r.s
    let cause : WakeCause :=
      match r.early with
      | some (_, v) => v
      | none => .planned
    let e : Nat := (last * c.k + c.f) / 2 ^ c.c
    let lt : LT := r.l0 + BitVec.ofNat 48 e
    let slept : LastSlumber :=
      { l0 := r.l0, w := r.w, cycles := last, e := e, residual := (r.w - lt).toNat, cause := cause }
    let power : Power := { s.power with state := .doze, record := none, early := none, last := some slept }
    let csc : Csc := { c with f := (last * c.k + c.f) % 2 ^ c.c }
    let restored : State := { s with tbu := { s.tbu with lt := lt }, power := power, csc := csc }
    r.cycles + 1 = last →
    (∃ t : State, exec .slumberEnd s = happened t ∧ t.tbu.lt = lt ∧ t.csc.f = csc.f ∧ t.csc.changes = [] ∧
      t.votes = s.votes ∧ t.engines = s.engines) ∧
    (allPassed.filter (isPassed restored) = [] → c.changes = [] →
      exec .slumberEnd s = happened (thriftTest
        { restored with csc :=
            { csc with cal := if c.rescheduled = true ∧ c.cal = .idle then .waiting else c.cal } }))) ∧
  (∀ d k f c : Nat, 0 < k → f < 2 ^ c →
    let e := (d * 2 ^ c / k * k + f) / 2 ^ c
    e ≤ d ∧ (d - e) * 2 ^ c < k + 2 ^ c) ∧
  (∀ (d : LT) (s : State), ltRuns s = true → s.power.wakeTarget = some d → ltReached s.tbu.lt d = true →
    let t : State := { s with power := { s.power with wakeTarget := none } }
    exec .wakeTarget s = happened (if s.rsq.record = .down then demand (.powerUp false true) t else t))

/-- A calibration starts at an edge once the trim word is delivered, and at its end K is accepted within 1/64 of the nominal
(R176, R177). A battery sample (R180, R181): the live state, the candidate and its count; four in agreement change the
filtered state, with BATTERY, the seen flags and the thrift test at once while LT runs, and after the slumber otherwise, as an
early-wake event. That the sleep-clock edges are commands is the model's choice (log 5), that a change before the first tick of
REF_IN waits for that tick too (log 26), and that BATTERY and CAL_REJECT name no subscription (log 38). -/
def Obligations.CalibrationAndBattery : Prop :=
  (∀ s : State, ltRuns s = true →
    let c := s.csc
    (c.cal = .waiting → s.tbu.delivered = true →
      exec .calStart s = .next { s with csc := { c with cal := .running s.tbu.lt s.tbu.trimWord } }) ∧
    (∀ start trim, c.cal = .running start trim →
      let m := (s.tbu.lt - start).toNat
      let nominal := 203125 * 2 ^ (c.c - 8)
      let window := nominal / 64
      let ended : Csc :=
        { c with cal := .idle, rescheduled := false, lastCalEnd := some s.tbu.lt,
                 calDue := some (s.tbu.lt + BitVec.ofNat 48 (c.interval * 26000000)) }
      (nominal - window ≤ m → m ≤ nominal + window →
        exec .calEnd s = happened
          { s with csc := { ended with k := m, valid := true, suspect := false },
                   tbu := { s.tbu with refTrim := trim } }) ∧
      (m < nominal - window ∨ nominal + window < m →
        exec .calEnd s = happened (giveNotice .P
          { body := .calReject m nominal c.c, sub := none, stamp := s.tbu.lt } { s with csc := ended })))) ∧
  (∀ (low critical : Bool) (s : State), s.phase ≠ .held →
    let c := s.csc
    let live : Battery := if critical = true then .critical else if low = true then .low else .normal
    let count : Nat := if c.candidate = some live then c.agreement + 1 else 1
    let changed : Csc :=
      { c with live := live, filtered := live, candidate := none, agreement := 0,
               lowSeen := c.lowSeen || live != .normal, criticalSeen := c.criticalSeen || live == .critical }
    (live = c.filtered → exec (.batterySample low critical) s =
      .next { s with csc := { c with live := live, candidate := none, agreement := 0 } }) ∧
    (live ≠ c.filtered → count ≠ 4 → exec (.batterySample low critical) s =
      .next { s with csc := { c with live := live, candidate := some live, agreement := count } }) ∧
    (live ≠ c.filtered → count = 4 → ltRuns s = true → exec (.batterySample low critical) s =
      happened (thriftTest (giveNotice .P { body := .battery c.filtered live, sub := none, stamp := s.tbu.lt }
        { s with csc := changed,
                 power := { s.power with
                   entry := s.power.entry.map (fun e => { e with batteryChanged := true }) } }))) ∧
    (live ≠ c.filtered → count = 4 → ltRuns s = false → exec (.batterySample low critical) s =
      .next { s with csc := { changed with changes := c.changes ++ [(c.filtered, live)] },
                     power := if s.power.state = .slumber ∧ s.power.early = none then
                       { s.power with early := some .battery } else s.power }))
end

