-- ==== Sys2Proof/Laws/State.lean ====
section
/-! SUPPORT. One lemma per field per update of the state, so that no later proof unfolds a record update; and the laws of
the per-subscription and per-port containers. -/

namespace Sys2Proof

/-! ### Containers -/

@[simp] theorem PerSub.get_set_self {α : Type} (p : PerSub α) (x : Subscription) (v : α) : (p.set x v).get x = v := by
  cases x <;> rfl

@[simp] theorem PerSub.get_set_other {α : Type} (p : PerSub α) (x : Subscription) (v : α) :
    (p.set x v).get x.other = p.get x.other := by
  cases x <;> rfl

theorem PerSub.get_set {α : Type} (p : PerSub α) (x y : Subscription) (v : α) :
    (p.set x v).get y = if y = x then v else p.get y := by
  cases x <;> cases y <;> rfl

@[simp] theorem PerSub.get_upd_self {α : Type} (p : PerSub α) (x : Subscription) (f : α → α) :
    (p.upd x f).get x = f (p.get x) := by
  cases x <;> rfl

@[simp] theorem PerSub.get_upd_other {α : Type} (p : PerSub α) (x : Subscription) (f : α → α) :
    (p.upd x f).get x.other = p.get x.other := by
  cases x <;> rfl

theorem PerSub.get_upd {α : Type} (p : PerSub α) (x y : Subscription) (f : α → α) :
    (p.upd x f).get y = if y = x then f (p.get y) else p.get y := by
  cases x <;> cases y <;> rfl

@[simp] theorem PerPort.get_set_self {α : Type} (p : PerPort α) (q : Port) (v : α) : (p.set q v).get q = v := by
  cases q <;> rfl

theorem PerPort.get_set {α : Type} (p : PerPort α) (q r : Port) (v : α) :
    (p.set q v).get r = if r = q then v else p.get r := by
  cases q <;> cases r <;> rfl

theorem PerPort.get_upd {α : Type} (p : PerPort α) (q r : Port) (f : α → α) :
    (p.upd q f).get r = if r = q then f (p.get r) else p.get r := by
  cases q <;> cases r <;> rfl

namespace Machine

/-! ### Fields of the updates -/

@[simp] theorem updTbu_phase (f : Tbu → Tbu) (s : State) :
    (updTbu f s).phase = s.phase := rfl
@[simp] theorem updTbu_tbu (f : Tbu → Tbu) (s : State) :
    (updTbu f s).tbu = f s.tbu := rfl
@[simp] theorem updTbu_cxm (f : Tbu → Tbu) (s : State) :
    (updTbu f s).cxm = s.cxm := rfl
@[simp] theorem updTbu_missed (f : Tbu → Tbu) (s : State) :
    (updTbu f s).missed = s.missed := rfl
@[simp] theorem updTbu_plan (f : Tbu → Tbu) (s : State) :
    (updTbu f s).plan = s.plan := rfl
@[simp] theorem updTbu_gens (f : Tbu → Tbu) (s : State) :
    (updTbu f s).gens = s.gens := rfl
@[simp] theorem updTbu_patterns (f : Tbu → Tbu) (s : State) :
    (updTbu f s).patterns = s.patterns := rfl
@[simp] theorem updTbu_credit (f : Tbu → Tbu) (s : State) :
    (updTbu f s).credit = s.credit := rfl
@[simp] theorem updTbu_air (f : Tbu → Tbu) (s : State) :
    (updTbu f s).air = s.air := rfl
@[simp] theorem updTbu_guards (f : Tbu → Tbu) (s : State) :
    (updTbu f s).guards = s.guards := rfl
@[simp] theorem updTbu_rsq (f : Tbu → Tbu) (s : State) :
    (updTbu f s).rsq = s.rsq := rfl
@[simp] theorem updTbu_pgu (f : Tbu → Tbu) (s : State) :
    (updTbu f s).pgu = s.pgu := rfl
@[simp] theorem updTbu_ceu (f : Tbu → Tbu) (s : State) :
    (updTbu f s).ceu = s.ceu := rfl
@[simp] theorem updTbu_msu (f : Tbu → Tbu) (s : State) :
    (updTbu f s).msu = s.msu := rfl
@[simp] theorem updTbu_selection (f : Tbu → Tbu) (s : State) :
    (updTbu f s).selection = s.selection := rfl
@[simp] theorem updTbu_hou (f : Tbu → Tbu) (s : State) :
    (updTbu f s).hou = s.hou := rfl
@[simp] theorem updTbu_power (f : Tbu → Tbu) (s : State) :
    (updTbu f s).power = s.power := rfl
@[simp] theorem updTbu_csc (f : Tbu → Tbu) (s : State) :
    (updTbu f s).csc = s.csc := rfl
@[simp] theorem updTbu_engines (f : Tbu → Tbu) (s : State) :
    (updTbu f s).engines = s.engines := rfl
@[simp] theorem updTbu_pins (f : Tbu → Tbu) (s : State) :
    (updTbu f s).pins = s.pins := rfl
@[simp] theorem updTbu_queues (f : Tbu → Tbu) (s : State) :
    (updTbu f s).queues = s.queues := rfl
@[simp] theorem updTbu_votes (f : Tbu → Tbu) (s : State) :
    (updTbu f s).votes = s.votes := rfl
@[simp] theorem updTbu_free (f : Tbu → Tbu) (s : State) :
    (updTbu f s).free = s.free := rfl
@[simp] theorem updTbu_pending (f : Tbu → Tbu) (s : State) :
    (updTbu f s).pending = s.pending := rfl

@[simp] theorem updRecord_phase (x : Subscription) (r : Option Timebase) (s : State) :
    (updRecord x r s).phase = s.phase := rfl
@[simp] theorem updRecord_tbu (x : Subscription) (r : Option Timebase) (s : State) :
    (updRecord x r s).tbu = { s.tbu with record := s.tbu.record.set x r } := rfl
@[simp] theorem updRecord_cxm (x : Subscription) (r : Option Timebase) (s : State) :
    (updRecord x r s).cxm = s.cxm := rfl
@[simp] theorem updRecord_missed (x : Subscription) (r : Option Timebase) (s : State) :
    (updRecord x r s).missed = s.missed := rfl
@[simp] theorem updRecord_plan (x : Subscription) (r : Option Timebase) (s : State) :
    (updRecord x r s).plan = s.plan := rfl
@[simp] theorem updRecord_gens (x : Subscription) (r : Option Timebase) (s : State) :
    (updRecord x r s).gens = s.gens := rfl
@[simp] theorem updRecord_patterns (x : Subscription) (r : Option Timebase) (s : State) :
    (updRecord x r s).patterns = s.patterns := rfl
@[simp] theorem updRecord_credit (x : Subscription) (r : Option Timebase) (s : State) :
    (updRecord x r s).credit = s.credit := rfl
@[simp] theorem updRecord_air (x : Subscription) (r : Option Timebase) (s : State) :
    (updRecord x r s).air = s.air := rfl
@[simp] theorem updRecord_guards (x : Subscription) (r : Option Timebase) (s : State) :
    (updRecord x r s).guards = s.guards := rfl
@[simp] theorem updRecord_rsq (x : Subscription) (r : Option Timebase) (s : State) :
    (updRecord x r s).rsq = s.rsq := rfl
@[simp] theorem updRecord_pgu (x : Subscription) (r : Option Timebase) (s : State) :
    (updRecord x r s).pgu = s.pgu := rfl
@[simp] theorem updRecord_ceu (x : Subscription) (r : Option Timebase) (s : State) :
    (updRecord x r s).ceu = s.ceu := rfl
@[simp] theorem updRecord_msu (x : Subscription) (r : Option Timebase) (s : State) :
    (updRecord x r s).msu = s.msu := rfl
@[simp] theorem updRecord_selection (x : Subscription) (r : Option Timebase) (s : State) :
    (updRecord x r s).selection = s.selection := rfl
@[simp] theorem updRecord_hou (x : Subscription) (r : Option Timebase) (s : State) :
    (updRecord x r s).hou = s.hou := rfl
@[simp] theorem updRecord_power (x : Subscription) (r : Option Timebase) (s : State) :
    (updRecord x r s).power = s.power := rfl
@[simp] theorem updRecord_csc (x : Subscription) (r : Option Timebase) (s : State) :
    (updRecord x r s).csc = s.csc := rfl
@[simp] theorem updRecord_engines (x : Subscription) (r : Option Timebase) (s : State) :
    (updRecord x r s).engines = s.engines := rfl
@[simp] theorem updRecord_pins (x : Subscription) (r : Option Timebase) (s : State) :
    (updRecord x r s).pins = s.pins := rfl
@[simp] theorem updRecord_queues (x : Subscription) (r : Option Timebase) (s : State) :
    (updRecord x r s).queues = s.queues := rfl
@[simp] theorem updRecord_votes (x : Subscription) (r : Option Timebase) (s : State) :
    (updRecord x r s).votes = s.votes := rfl
@[simp] theorem updRecord_free (x : Subscription) (r : Option Timebase) (s : State) :
    (updRecord x r s).free = s.free := rfl
@[simp] theorem updRecord_pending (x : Subscription) (r : Option Timebase) (s : State) :
    (updRecord x r s).pending = s.pending := rfl

@[simp] theorem updCtx_phase (x : Subscription) (f : Context → Context) (s : State) :
    (updCtx x f s).phase = s.phase := rfl
@[simp] theorem updCtx_tbu (x : Subscription) (f : Context → Context) (s : State) :
    (updCtx x f s).tbu = s.tbu := rfl
@[simp] theorem updCtx_cxm (x : Subscription) (f : Context → Context) (s : State) :
    (updCtx x f s).cxm = s.cxm.upd x f := rfl
@[simp] theorem updCtx_missed (x : Subscription) (f : Context → Context) (s : State) :
    (updCtx x f s).missed = s.missed := rfl
@[simp] theorem updCtx_plan (x : Subscription) (f : Context → Context) (s : State) :
    (updCtx x f s).plan = s.plan := rfl
@[simp] theorem updCtx_gens (x : Subscription) (f : Context → Context) (s : State) :
    (updCtx x f s).gens = s.gens := rfl
@[simp] theorem updCtx_patterns (x : Subscription) (f : Context → Context) (s : State) :
    (updCtx x f s).patterns = s.patterns := rfl
@[simp] theorem updCtx_credit (x : Subscription) (f : Context → Context) (s : State) :
    (updCtx x f s).credit = s.credit := rfl
@[simp] theorem updCtx_air (x : Subscription) (f : Context → Context) (s : State) :
    (updCtx x f s).air = s.air := rfl
@[simp] theorem updCtx_guards (x : Subscription) (f : Context → Context) (s : State) :
    (updCtx x f s).guards = s.guards := rfl
@[simp] theorem updCtx_rsq (x : Subscription) (f : Context → Context) (s : State) :
    (updCtx x f s).rsq = s.rsq := rfl
@[simp] theorem updCtx_pgu (x : Subscription) (f : Context → Context) (s : State) :
    (updCtx x f s).pgu = s.pgu := rfl
@[simp] theorem updCtx_ceu (x : Subscription) (f : Context → Context) (s : State) :
    (updCtx x f s).ceu = s.ceu := rfl
@[simp] theorem updCtx_msu (x : Subscription) (f : Context → Context) (s : State) :
    (updCtx x f s).msu = s.msu := rfl
@[simp] theorem updCtx_selection (x : Subscription) (f : Context → Context) (s : State) :
    (updCtx x f s).selection = s.selection := rfl
@[simp] theorem updCtx_hou (x : Subscription) (f : Context → Context) (s : State) :
    (updCtx x f s).hou = s.hou := rfl
@[simp] theorem updCtx_power (x : Subscription) (f : Context → Context) (s : State) :
    (updCtx x f s).power = s.power := rfl
@[simp] theorem updCtx_csc (x : Subscription) (f : Context → Context) (s : State) :
    (updCtx x f s).csc = s.csc := rfl
@[simp] theorem updCtx_engines (x : Subscription) (f : Context → Context) (s : State) :
    (updCtx x f s).engines = s.engines := rfl
@[simp] theorem updCtx_pins (x : Subscription) (f : Context → Context) (s : State) :
    (updCtx x f s).pins = s.pins := rfl
@[simp] theorem updCtx_queues (x : Subscription) (f : Context → Context) (s : State) :
    (updCtx x f s).queues = s.queues := rfl
@[simp] theorem updCtx_votes (x : Subscription) (f : Context → Context) (s : State) :
    (updCtx x f s).votes = s.votes := rfl
@[simp] theorem updCtx_free (x : Subscription) (f : Context → Context) (s : State) :
    (updCtx x f s).free = s.free := rfl
@[simp] theorem updCtx_pending (x : Subscription) (f : Context → Context) (s : State) :
    (updCtx x f s).pending = s.pending := rfl

@[simp] theorem updRsq_phase (f : Rsq → Rsq) (s : State) :
    (updRsq f s).phase = s.phase := rfl
@[simp] theorem updRsq_tbu (f : Rsq → Rsq) (s : State) :
    (updRsq f s).tbu = s.tbu := rfl
@[simp] theorem updRsq_cxm (f : Rsq → Rsq) (s : State) :
    (updRsq f s).cxm = s.cxm := rfl
@[simp] theorem updRsq_missed (f : Rsq → Rsq) (s : State) :
    (updRsq f s).missed = s.missed := rfl
@[simp] theorem updRsq_plan (f : Rsq → Rsq) (s : State) :
    (updRsq f s).plan = s.plan := rfl
@[simp] theorem updRsq_gens (f : Rsq → Rsq) (s : State) :
    (updRsq f s).gens = s.gens := rfl
@[simp] theorem updRsq_patterns (f : Rsq → Rsq) (s : State) :
    (updRsq f s).patterns = s.patterns := rfl
@[simp] theorem updRsq_credit (f : Rsq → Rsq) (s : State) :
    (updRsq f s).credit = s.credit := rfl
@[simp] theorem updRsq_air (f : Rsq → Rsq) (s : State) :
    (updRsq f s).air = s.air := rfl
@[simp] theorem updRsq_guards (f : Rsq → Rsq) (s : State) :
    (updRsq f s).guards = s.guards := rfl
@[simp] theorem updRsq_rsq (f : Rsq → Rsq) (s : State) :
    (updRsq f s).rsq = f s.rsq := rfl
@[simp] theorem updRsq_pgu (f : Rsq → Rsq) (s : State) :
    (updRsq f s).pgu = s.pgu := rfl
@[simp] theorem updRsq_ceu (f : Rsq → Rsq) (s : State) :
    (updRsq f s).ceu = s.ceu := rfl
@[simp] theorem updRsq_msu (f : Rsq → Rsq) (s : State) :
    (updRsq f s).msu = s.msu := rfl
@[simp] theorem updRsq_selection (f : Rsq → Rsq) (s : State) :
    (updRsq f s).selection = s.selection := rfl
@[simp] theorem updRsq_hou (f : Rsq → Rsq) (s : State) :
    (updRsq f s).hou = s.hou := rfl
@[simp] theorem updRsq_power (f : Rsq → Rsq) (s : State) :
    (updRsq f s).power = s.power := rfl
@[simp] theorem updRsq_csc (f : Rsq → Rsq) (s : State) :
    (updRsq f s).csc = s.csc := rfl
@[simp] theorem updRsq_engines (f : Rsq → Rsq) (s : State) :
    (updRsq f s).engines = s.engines := rfl
@[simp] theorem updRsq_pins (f : Rsq → Rsq) (s : State) :
    (updRsq f s).pins = s.pins := rfl
@[simp] theorem updRsq_queues (f : Rsq → Rsq) (s : State) :
    (updRsq f s).queues = s.queues := rfl
@[simp] theorem updRsq_votes (f : Rsq → Rsq) (s : State) :
    (updRsq f s).votes = s.votes := rfl
@[simp] theorem updRsq_free (f : Rsq → Rsq) (s : State) :
    (updRsq f s).free = s.free := rfl
@[simp] theorem updRsq_pending (f : Rsq → Rsq) (s : State) :
    (updRsq f s).pending = s.pending := rfl

@[simp] theorem updPgu_phase (x : Subscription) (f : Pgu → Pgu) (s : State) :
    (updPgu x f s).phase = s.phase := rfl
@[simp] theorem updPgu_tbu (x : Subscription) (f : Pgu → Pgu) (s : State) :
    (updPgu x f s).tbu = s.tbu := rfl
@[simp] theorem updPgu_cxm (x : Subscription) (f : Pgu → Pgu) (s : State) :
    (updPgu x f s).cxm = s.cxm := rfl
@[simp] theorem updPgu_missed (x : Subscription) (f : Pgu → Pgu) (s : State) :
    (updPgu x f s).missed = s.missed := rfl
@[simp] theorem updPgu_plan (x : Subscription) (f : Pgu → Pgu) (s : State) :
    (updPgu x f s).plan = s.plan := rfl
@[simp] theorem updPgu_gens (x : Subscription) (f : Pgu → Pgu) (s : State) :
    (updPgu x f s).gens = s.gens := rfl
@[simp] theorem updPgu_patterns (x : Subscription) (f : Pgu → Pgu) (s : State) :
    (updPgu x f s).patterns = s.patterns := rfl
@[simp] theorem updPgu_credit (x : Subscription) (f : Pgu → Pgu) (s : State) :
    (updPgu x f s).credit = s.credit := rfl
@[simp] theorem updPgu_air (x : Subscription) (f : Pgu → Pgu) (s : State) :
    (updPgu x f s).air = s.air := rfl
@[simp] theorem updPgu_guards (x : Subscription) (f : Pgu → Pgu) (s : State) :
    (updPgu x f s).guards = s.guards := rfl
@[simp] theorem updPgu_rsq (x : Subscription) (f : Pgu → Pgu) (s : State) :
    (updPgu x f s).rsq = s.rsq := rfl
@[simp] theorem updPgu_pgu (x : Subscription) (f : Pgu → Pgu) (s : State) :
    (updPgu x f s).pgu = s.pgu.upd x f := rfl
@[simp] theorem updPgu_ceu (x : Subscription) (f : Pgu → Pgu) (s : State) :
    (updPgu x f s).ceu = s.ceu := rfl
@[simp] theorem updPgu_msu (x : Subscription) (f : Pgu → Pgu) (s : State) :
    (updPgu x f s).msu = s.msu := rfl
@[simp] theorem updPgu_selection (x : Subscription) (f : Pgu → Pgu) (s : State) :
    (updPgu x f s).selection = s.selection := rfl
@[simp] theorem updPgu_hou (x : Subscription) (f : Pgu → Pgu) (s : State) :
    (updPgu x f s).hou = s.hou := rfl
@[simp] theorem updPgu_power (x : Subscription) (f : Pgu → Pgu) (s : State) :
    (updPgu x f s).power = s.power := rfl
@[simp] theorem updPgu_csc (x : Subscription) (f : Pgu → Pgu) (s : State) :
    (updPgu x f s).csc = s.csc := rfl
@[simp] theorem updPgu_engines (x : Subscription) (f : Pgu → Pgu) (s : State) :
    (updPgu x f s).engines = s.engines := rfl
@[simp] theorem updPgu_pins (x : Subscription) (f : Pgu → Pgu) (s : State) :
    (updPgu x f s).pins = s.pins := rfl
@[simp] theorem updPgu_queues (x : Subscription) (f : Pgu → Pgu) (s : State) :
    (updPgu x f s).queues = s.queues := rfl
@[simp] theorem updPgu_votes (x : Subscription) (f : Pgu → Pgu) (s : State) :
    (updPgu x f s).votes = s.votes := rfl
@[simp] theorem updPgu_free (x : Subscription) (f : Pgu → Pgu) (s : State) :
    (updPgu x f s).free = s.free := rfl
@[simp] theorem updPgu_pending (x : Subscription) (f : Pgu → Pgu) (s : State) :
    (updPgu x f s).pending = s.pending := rfl

@[simp] theorem updCeu_phase (x : Subscription) (f : CeuItems → CeuItems) (s : State) :
    (updCeu x f s).phase = s.phase := rfl
@[simp] theorem updCeu_tbu (x : Subscription) (f : CeuItems → CeuItems) (s : State) :
    (updCeu x f s).tbu = s.tbu := rfl
@[simp] theorem updCeu_cxm (x : Subscription) (f : CeuItems → CeuItems) (s : State) :
    (updCeu x f s).cxm = s.cxm := rfl
@[simp] theorem updCeu_missed (x : Subscription) (f : CeuItems → CeuItems) (s : State) :
    (updCeu x f s).missed = s.missed := rfl
@[simp] theorem updCeu_plan (x : Subscription) (f : CeuItems → CeuItems) (s : State) :
    (updCeu x f s).plan = s.plan := rfl
@[simp] theorem updCeu_gens (x : Subscription) (f : CeuItems → CeuItems) (s : State) :
    (updCeu x f s).gens = s.gens := rfl
@[simp] theorem updCeu_patterns (x : Subscription) (f : CeuItems → CeuItems) (s : State) :
    (updCeu x f s).patterns = s.patterns := rfl
@[simp] theorem updCeu_credit (x : Subscription) (f : CeuItems → CeuItems) (s : State) :
    (updCeu x f s).credit = s.credit := rfl
@[simp] theorem updCeu_air (x : Subscription) (f : CeuItems → CeuItems) (s : State) :
    (updCeu x f s).air = s.air := rfl
@[simp] theorem updCeu_guards (x : Subscription) (f : CeuItems → CeuItems) (s : State) :
    (updCeu x f s).guards = s.guards := rfl
@[simp] theorem updCeu_rsq (x : Subscription) (f : CeuItems → CeuItems) (s : State) :
    (updCeu x f s).rsq = s.rsq := rfl
@[simp] theorem updCeu_pgu (x : Subscription) (f : CeuItems → CeuItems) (s : State) :
    (updCeu x f s).pgu = s.pgu := rfl
@[simp] theorem updCeu_ceu (x : Subscription) (f : CeuItems → CeuItems) (s : State) :
    (updCeu x f s).ceu = { s.ceu with items := s.ceu.items.upd x f } := rfl
@[simp] theorem updCeu_msu (x : Subscription) (f : CeuItems → CeuItems) (s : State) :
    (updCeu x f s).msu = s.msu := rfl
@[simp] theorem updCeu_selection (x : Subscription) (f : CeuItems → CeuItems) (s : State) :
    (updCeu x f s).selection = s.selection := rfl
@[simp] theorem updCeu_hou (x : Subscription) (f : CeuItems → CeuItems) (s : State) :
    (updCeu x f s).hou = s.hou := rfl
@[simp] theorem updCeu_power (x : Subscription) (f : CeuItems → CeuItems) (s : State) :
    (updCeu x f s).power = s.power := rfl
@[simp] theorem updCeu_csc (x : Subscription) (f : CeuItems → CeuItems) (s : State) :
    (updCeu x f s).csc = s.csc := rfl
@[simp] theorem updCeu_engines (x : Subscription) (f : CeuItems → CeuItems) (s : State) :
    (updCeu x f s).engines = s.engines := rfl
@[simp] theorem updCeu_pins (x : Subscription) (f : CeuItems → CeuItems) (s : State) :
    (updCeu x f s).pins = s.pins := rfl
@[simp] theorem updCeu_queues (x : Subscription) (f : CeuItems → CeuItems) (s : State) :
    (updCeu x f s).queues = s.queues := rfl
@[simp] theorem updCeu_votes (x : Subscription) (f : CeuItems → CeuItems) (s : State) :
    (updCeu x f s).votes = s.votes := rfl
@[simp] theorem updCeu_free (x : Subscription) (f : CeuItems → CeuItems) (s : State) :
    (updCeu x f s).free = s.free := rfl
@[simp] theorem updCeu_pending (x : Subscription) (f : CeuItems → CeuItems) (s : State) :
    (updCeu x f s).pending = s.pending := rfl

@[simp] theorem updMsu_phase (x : Subscription) (f : Msu → Msu) (s : State) :
    (updMsu x f s).phase = s.phase := rfl
@[simp] theorem updMsu_tbu (x : Subscription) (f : Msu → Msu) (s : State) :
    (updMsu x f s).tbu = s.tbu := rfl
@[simp] theorem updMsu_cxm (x : Subscription) (f : Msu → Msu) (s : State) :
    (updMsu x f s).cxm = s.cxm := rfl
@[simp] theorem updMsu_missed (x : Subscription) (f : Msu → Msu) (s : State) :
    (updMsu x f s).missed = s.missed := rfl
@[simp] theorem updMsu_plan (x : Subscription) (f : Msu → Msu) (s : State) :
    (updMsu x f s).plan = s.plan := rfl
@[simp] theorem updMsu_gens (x : Subscription) (f : Msu → Msu) (s : State) :
    (updMsu x f s).gens = s.gens := rfl
@[simp] theorem updMsu_patterns (x : Subscription) (f : Msu → Msu) (s : State) :
    (updMsu x f s).patterns = s.patterns := rfl
@[simp] theorem updMsu_credit (x : Subscription) (f : Msu → Msu) (s : State) :
    (updMsu x f s).credit = s.credit := rfl
@[simp] theorem updMsu_air (x : Subscription) (f : Msu → Msu) (s : State) :
    (updMsu x f s).air = s.air := rfl
@[simp] theorem updMsu_guards (x : Subscription) (f : Msu → Msu) (s : State) :
    (updMsu x f s).guards = s.guards := rfl
@[simp] theorem updMsu_rsq (x : Subscription) (f : Msu → Msu) (s : State) :
    (updMsu x f s).rsq = s.rsq := rfl
@[simp] theorem updMsu_pgu (x : Subscription) (f : Msu → Msu) (s : State) :
    (updMsu x f s).pgu = s.pgu := rfl
@[simp] theorem updMsu_ceu (x : Subscription) (f : Msu → Msu) (s : State) :
    (updMsu x f s).ceu = s.ceu := rfl
@[simp] theorem updMsu_msu (x : Subscription) (f : Msu → Msu) (s : State) :
    (updMsu x f s).msu = s.msu.upd x f := rfl
@[simp] theorem updMsu_selection (x : Subscription) (f : Msu → Msu) (s : State) :
    (updMsu x f s).selection = s.selection := rfl
@[simp] theorem updMsu_hou (x : Subscription) (f : Msu → Msu) (s : State) :
    (updMsu x f s).hou = s.hou := rfl
@[simp] theorem updMsu_power (x : Subscription) (f : Msu → Msu) (s : State) :
    (updMsu x f s).power = s.power := rfl
@[simp] theorem updMsu_csc (x : Subscription) (f : Msu → Msu) (s : State) :
    (updMsu x f s).csc = s.csc := rfl
@[simp] theorem updMsu_engines (x : Subscription) (f : Msu → Msu) (s : State) :
    (updMsu x f s).engines = s.engines := rfl
@[simp] theorem updMsu_pins (x : Subscription) (f : Msu → Msu) (s : State) :
    (updMsu x f s).pins = s.pins := rfl
@[simp] theorem updMsu_queues (x : Subscription) (f : Msu → Msu) (s : State) :
    (updMsu x f s).queues = s.queues := rfl
@[simp] theorem updMsu_votes (x : Subscription) (f : Msu → Msu) (s : State) :
    (updMsu x f s).votes = s.votes := rfl
@[simp] theorem updMsu_free (x : Subscription) (f : Msu → Msu) (s : State) :
    (updMsu x f s).free = s.free := rfl
@[simp] theorem updMsu_pending (x : Subscription) (f : Msu → Msu) (s : State) :
    (updMsu x f s).pending = s.pending := rfl

@[simp] theorem updHou_phase (x : Subscription) (f : Hou → Hou) (s : State) :
    (updHou x f s).phase = s.phase := rfl
@[simp] theorem updHou_tbu (x : Subscription) (f : Hou → Hou) (s : State) :
    (updHou x f s).tbu = s.tbu := rfl
@[simp] theorem updHou_cxm (x : Subscription) (f : Hou → Hou) (s : State) :
    (updHou x f s).cxm = s.cxm := rfl
@[simp] theorem updHou_missed (x : Subscription) (f : Hou → Hou) (s : State) :
    (updHou x f s).missed = s.missed := rfl
@[simp] theorem updHou_plan (x : Subscription) (f : Hou → Hou) (s : State) :
    (updHou x f s).plan = s.plan := rfl
@[simp] theorem updHou_gens (x : Subscription) (f : Hou → Hou) (s : State) :
    (updHou x f s).gens = s.gens := rfl
@[simp] theorem updHou_patterns (x : Subscription) (f : Hou → Hou) (s : State) :
    (updHou x f s).patterns = s.patterns := rfl
@[simp] theorem updHou_credit (x : Subscription) (f : Hou → Hou) (s : State) :
    (updHou x f s).credit = s.credit := rfl
@[simp] theorem updHou_air (x : Subscription) (f : Hou → Hou) (s : State) :
    (updHou x f s).air = s.air := rfl
@[simp] theorem updHou_guards (x : Subscription) (f : Hou → Hou) (s : State) :
    (updHou x f s).guards = s.guards := rfl
@[simp] theorem updHou_rsq (x : Subscription) (f : Hou → Hou) (s : State) :
    (updHou x f s).rsq = s.rsq := rfl
@[simp] theorem updHou_pgu (x : Subscription) (f : Hou → Hou) (s : State) :
    (updHou x f s).pgu = s.pgu := rfl
@[simp] theorem updHou_ceu (x : Subscription) (f : Hou → Hou) (s : State) :
    (updHou x f s).ceu = s.ceu := rfl
@[simp] theorem updHou_msu (x : Subscription) (f : Hou → Hou) (s : State) :
    (updHou x f s).msu = s.msu := rfl
@[simp] theorem updHou_selection (x : Subscription) (f : Hou → Hou) (s : State) :
    (updHou x f s).selection = s.selection := rfl
@[simp] theorem updHou_hou (x : Subscription) (f : Hou → Hou) (s : State) :
    (updHou x f s).hou = s.hou.upd x f := rfl
@[simp] theorem updHou_power (x : Subscription) (f : Hou → Hou) (s : State) :
    (updHou x f s).power = s.power := rfl
@[simp] theorem updHou_csc (x : Subscription) (f : Hou → Hou) (s : State) :
    (updHou x f s).csc = s.csc := rfl
@[simp] theorem updHou_engines (x : Subscription) (f : Hou → Hou) (s : State) :
    (updHou x f s).engines = s.engines := rfl
@[simp] theorem updHou_pins (x : Subscription) (f : Hou → Hou) (s : State) :
    (updHou x f s).pins = s.pins := rfl
@[simp] theorem updHou_queues (x : Subscription) (f : Hou → Hou) (s : State) :
    (updHou x f s).queues = s.queues := rfl
@[simp] theorem updHou_votes (x : Subscription) (f : Hou → Hou) (s : State) :
    (updHou x f s).votes = s.votes := rfl
@[simp] theorem updHou_free (x : Subscription) (f : Hou → Hou) (s : State) :
    (updHou x f s).free = s.free := rfl
@[simp] theorem updHou_pending (x : Subscription) (f : Hou → Hou) (s : State) :
    (updHou x f s).pending = s.pending := rfl

@[simp] theorem updPower_phase (f : Power → Power) (s : State) :
    (updPower f s).phase = s.phase := rfl
@[simp] theorem updPower_tbu (f : Power → Power) (s : State) :
    (updPower f s).tbu = s.tbu := rfl
@[simp] theorem updPower_cxm (f : Power → Power) (s : State) :
    (updPower f s).cxm = s.cxm := rfl
@[simp] theorem updPower_missed (f : Power → Power) (s : State) :
    (updPower f s).missed = s.missed := rfl
@[simp] theorem updPower_plan (f : Power → Power) (s : State) :
    (updPower f s).plan = s.plan := rfl
@[simp] theorem updPower_gens (f : Power → Power) (s : State) :
    (updPower f s).gens = s.gens := rfl
@[simp] theorem updPower_patterns (f : Power → Power) (s : State) :
    (updPower f s).patterns = s.patterns := rfl
@[simp] theorem updPower_credit (f : Power → Power) (s : State) :
    (updPower f s).credit = s.credit := rfl
@[simp] theorem updPower_air (f : Power → Power) (s : State) :
    (updPower f s).air = s.air := rfl
@[simp] theorem updPower_guards (f : Power → Power) (s : State) :
    (updPower f s).guards = s.guards := rfl
@[simp] theorem updPower_rsq (f : Power → Power) (s : State) :
    (updPower f s).rsq = s.rsq := rfl
@[simp] theorem updPower_pgu (f : Power → Power) (s : State) :
    (updPower f s).pgu = s.pgu := rfl
@[simp] theorem updPower_ceu (f : Power → Power) (s : State) :
    (updPower f s).ceu = s.ceu := rfl
@[simp] theorem updPower_msu (f : Power → Power) (s : State) :
    (updPower f s).msu = s.msu := rfl
@[simp] theorem updPower_selection (f : Power → Power) (s : State) :
    (updPower f s).selection = s.selection := rfl
@[simp] theorem updPower_hou (f : Power → Power) (s : State) :
    (updPower f s).hou = s.hou := rfl
@[simp] theorem updPower_power (f : Power → Power) (s : State) :
    (updPower f s).power = f s.power := rfl
@[simp] theorem updPower_csc (f : Power → Power) (s : State) :
    (updPower f s).csc = s.csc := rfl
@[simp] theorem updPower_engines (f : Power → Power) (s : State) :
    (updPower f s).engines = s.engines := rfl
@[simp] theorem updPower_pins (f : Power → Power) (s : State) :
    (updPower f s).pins = s.pins := rfl
@[simp] theorem updPower_queues (f : Power → Power) (s : State) :
    (updPower f s).queues = s.queues := rfl
@[simp] theorem updPower_votes (f : Power → Power) (s : State) :
    (updPower f s).votes = s.votes := rfl
@[simp] theorem updPower_free (f : Power → Power) (s : State) :
    (updPower f s).free = s.free := rfl
@[simp] theorem updPower_pending (f : Power → Power) (s : State) :
    (updPower f s).pending = s.pending := rfl

@[simp] theorem updCsc_phase (f : Csc → Csc) (s : State) :
    (updCsc f s).phase = s.phase := rfl
@[simp] theorem updCsc_tbu (f : Csc → Csc) (s : State) :
    (updCsc f s).tbu = s.tbu := rfl
@[simp] theorem updCsc_cxm (f : Csc → Csc) (s : State) :
    (updCsc f s).cxm = s.cxm := rfl
@[simp] theorem updCsc_missed (f : Csc → Csc) (s : State) :
    (updCsc f s).missed = s.missed := rfl
@[simp] theorem updCsc_plan (f : Csc → Csc) (s : State) :
    (updCsc f s).plan = s.plan := rfl
@[simp] theorem updCsc_gens (f : Csc → Csc) (s : State) :
    (updCsc f s).gens = s.gens := rfl
@[simp] theorem updCsc_patterns (f : Csc → Csc) (s : State) :
    (updCsc f s).patterns = s.patterns := rfl
@[simp] theorem updCsc_credit (f : Csc → Csc) (s : State) :
    (updCsc f s).credit = s.credit := rfl
@[simp] theorem updCsc_air (f : Csc → Csc) (s : State) :
    (updCsc f s).air = s.air := rfl
@[simp] theorem updCsc_guards (f : Csc → Csc) (s : State) :
    (updCsc f s).guards = s.guards := rfl
@[simp] theorem updCsc_rsq (f : Csc → Csc) (s : State) :
    (updCsc f s).rsq = s.rsq := rfl
@[simp] theorem updCsc_pgu (f : Csc → Csc) (s : State) :
    (updCsc f s).pgu = s.pgu := rfl
@[simp] theorem updCsc_ceu (f : Csc → Csc) (s : State) :
    (updCsc f s).ceu = s.ceu := rfl
@[simp] theorem updCsc_msu (f : Csc → Csc) (s : State) :
    (updCsc f s).msu = s.msu := rfl
@[simp] theorem updCsc_selection (f : Csc → Csc) (s : State) :
    (updCsc f s).selection = s.selection := rfl
@[simp] theorem updCsc_hou (f : Csc → Csc) (s : State) :
    (updCsc f s).hou = s.hou := rfl
@[simp] theorem updCsc_power (f : Csc → Csc) (s : State) :
    (updCsc f s).power = s.power := rfl
@[simp] theorem updCsc_csc (f : Csc → Csc) (s : State) :
    (updCsc f s).csc = f s.csc := rfl
@[simp] theorem updCsc_engines (f : Csc → Csc) (s : State) :
    (updCsc f s).engines = s.engines := rfl
@[simp] theorem updCsc_pins (f : Csc → Csc) (s : State) :
    (updCsc f s).pins = s.pins := rfl
@[simp] theorem updCsc_queues (f : Csc → Csc) (s : State) :
    (updCsc f s).queues = s.queues := rfl
@[simp] theorem updCsc_votes (f : Csc → Csc) (s : State) :
    (updCsc f s).votes = s.votes := rfl
@[simp] theorem updCsc_free (f : Csc → Csc) (s : State) :
    (updCsc f s).free = s.free := rfl
@[simp] theorem updCsc_pending (f : Csc → Csc) (s : State) :
    (updCsc f s).pending = s.pending := rfl

@[simp] theorem setSelection_phase (x : Subscription) (v : Option Selection) (s : State) :
    (setSelection x v s).phase = s.phase := rfl
@[simp] theorem setSelection_tbu (x : Subscription) (v : Option Selection) (s : State) :
    (setSelection x v s).tbu = s.tbu := rfl
@[simp] theorem setSelection_cxm (x : Subscription) (v : Option Selection) (s : State) :
    (setSelection x v s).cxm = s.cxm := rfl
@[simp] theorem setSelection_missed (x : Subscription) (v : Option Selection) (s : State) :
    (setSelection x v s).missed = s.missed := rfl
@[simp] theorem setSelection_plan (x : Subscription) (v : Option Selection) (s : State) :
    (setSelection x v s).plan = s.plan := rfl
@[simp] theorem setSelection_gens (x : Subscription) (v : Option Selection) (s : State) :
    (setSelection x v s).gens = s.gens := rfl
@[simp] theorem setSelection_patterns (x : Subscription) (v : Option Selection) (s : State) :
    (setSelection x v s).patterns = s.patterns := rfl
@[simp] theorem setSelection_credit (x : Subscription) (v : Option Selection) (s : State) :
    (setSelection x v s).credit = s.credit := rfl
@[simp] theorem setSelection_air (x : Subscription) (v : Option Selection) (s : State) :
    (setSelection x v s).air = s.air := rfl
@[simp] theorem setSelection_guards (x : Subscription) (v : Option Selection) (s : State) :
    (setSelection x v s).guards = s.guards := rfl
@[simp] theorem setSelection_rsq (x : Subscription) (v : Option Selection) (s : State) :
    (setSelection x v s).rsq = s.rsq := rfl
@[simp] theorem setSelection_pgu (x : Subscription) (v : Option Selection) (s : State) :
    (setSelection x v s).pgu = s.pgu := rfl
@[simp] theorem setSelection_ceu (x : Subscription) (v : Option Selection) (s : State) :
    (setSelection x v s).ceu = s.ceu := rfl
@[simp] theorem setSelection_msu (x : Subscription) (v : Option Selection) (s : State) :
    (setSelection x v s).msu = s.msu := rfl
@[simp] theorem setSelection_selection (x : Subscription) (v : Option Selection) (s : State) :
    (setSelection x v s).selection = s.selection.set x v := rfl
@[simp] theorem setSelection_hou (x : Subscription) (v : Option Selection) (s : State) :
    (setSelection x v s).hou = s.hou := rfl
@[simp] theorem setSelection_power (x : Subscription) (v : Option Selection) (s : State) :
    (setSelection x v s).power = s.power := rfl
@[simp] theorem setSelection_csc (x : Subscription) (v : Option Selection) (s : State) :
    (setSelection x v s).csc = s.csc := rfl
@[simp] theorem setSelection_engines (x : Subscription) (v : Option Selection) (s : State) :
    (setSelection x v s).engines = s.engines := rfl
@[simp] theorem setSelection_pins (x : Subscription) (v : Option Selection) (s : State) :
    (setSelection x v s).pins = s.pins := rfl
@[simp] theorem setSelection_queues (x : Subscription) (v : Option Selection) (s : State) :
    (setSelection x v s).queues = s.queues := rfl
@[simp] theorem setSelection_votes (x : Subscription) (v : Option Selection) (s : State) :
    (setSelection x v s).votes = s.votes := rfl
@[simp] theorem setSelection_free (x : Subscription) (v : Option Selection) (s : State) :
    (setSelection x v s).free = s.free := rfl
@[simp] theorem setSelection_pending (x : Subscription) (v : Option Selection) (s : State) :
    (setSelection x v s).pending = s.pending := rfl

@[simp] theorem updPattern_phase (x : Subscription) (k : Pat) (f : Pattern → Pattern) (s : State) :
    (updPattern x k f s).phase = s.phase := rfl
@[simp] theorem updPattern_tbu (x : Subscription) (k : Pat) (f : Pattern → Pattern) (s : State) :
    (updPattern x k f s).tbu = s.tbu := rfl
@[simp] theorem updPattern_cxm (x : Subscription) (k : Pat) (f : Pattern → Pattern) (s : State) :
    (updPattern x k f s).cxm = s.cxm := rfl
@[simp] theorem updPattern_missed (x : Subscription) (k : Pat) (f : Pattern → Pattern) (s : State) :
    (updPattern x k f s).missed = s.missed := rfl
@[simp] theorem updPattern_plan (x : Subscription) (k : Pat) (f : Pattern → Pattern) (s : State) :
    (updPattern x k f s).plan = s.plan := rfl
@[simp] theorem updPattern_gens (x : Subscription) (k : Pat) (f : Pattern → Pattern) (s : State) :
    (updPattern x k f s).gens = s.gens := rfl
@[simp] theorem updPattern_patterns (x : Subscription) (k : Pat) (f : Pattern → Pattern) (s : State) :
    (updPattern x k f s).patterns = s.patterns.upd x (fun p => p.set k (f (p.get k))) := rfl
@[simp] theorem updPattern_credit (x : Subscription) (k : Pat) (f : Pattern → Pattern) (s : State) :
    (updPattern x k f s).credit = s.credit := rfl
@[simp] theorem updPattern_air (x : Subscription) (k : Pat) (f : Pattern → Pattern) (s : State) :
    (updPattern x k f s).air = s.air := rfl
@[simp] theorem updPattern_guards (x : Subscription) (k : Pat) (f : Pattern → Pattern) (s : State) :
    (updPattern x k f s).guards = s.guards := rfl
@[simp] theorem updPattern_rsq (x : Subscription) (k : Pat) (f : Pattern → Pattern) (s : State) :
    (updPattern x k f s).rsq = s.rsq := rfl
@[simp] theorem updPattern_pgu (x : Subscription) (k : Pat) (f : Pattern → Pattern) (s : State) :
    (updPattern x k f s).pgu = s.pgu := rfl
@[simp] theorem updPattern_ceu (x : Subscription) (k : Pat) (f : Pattern → Pattern) (s : State) :
    (updPattern x k f s).ceu = s.ceu := rfl
@[simp] theorem updPattern_msu (x : Subscription) (k : Pat) (f : Pattern → Pattern) (s : State) :
    (updPattern x k f s).msu = s.msu := rfl
@[simp] theorem updPattern_selection (x : Subscription) (k : Pat) (f : Pattern → Pattern) (s : State) :
    (updPattern x k f s).selection = s.selection := rfl
@[simp] theorem updPattern_hou (x : Subscription) (k : Pat) (f : Pattern → Pattern) (s : State) :
    (updPattern x k f s).hou = s.hou := rfl
@[simp] theorem updPattern_power (x : Subscription) (k : Pat) (f : Pattern → Pattern) (s : State) :
    (updPattern x k f s).power = s.power := rfl
@[simp] theorem updPattern_csc (x : Subscription) (k : Pat) (f : Pattern → Pattern) (s : State) :
    (updPattern x k f s).csc = s.csc := rfl
@[simp] theorem updPattern_engines (x : Subscription) (k : Pat) (f : Pattern → Pattern) (s : State) :
    (updPattern x k f s).engines = s.engines := rfl
@[simp] theorem updPattern_pins (x : Subscription) (k : Pat) (f : Pattern → Pattern) (s : State) :
    (updPattern x k f s).pins = s.pins := rfl
@[simp] theorem updPattern_queues (x : Subscription) (k : Pat) (f : Pattern → Pattern) (s : State) :
    (updPattern x k f s).queues = s.queues := rfl
@[simp] theorem updPattern_votes (x : Subscription) (k : Pat) (f : Pattern → Pattern) (s : State) :
    (updPattern x k f s).votes = s.votes := rfl
@[simp] theorem updPattern_free (x : Subscription) (k : Pat) (f : Pattern → Pattern) (s : State) :
    (updPattern x k f s).free = s.free := rfl
@[simp] theorem updPattern_pending (x : Subscription) (k : Pat) (f : Pattern → Pattern) (s : State) :
    (updPattern x k f s).pending = s.pending := rfl
@[simp] theorem setRunOn_phase (x : Subscription) (l : List RunOn) (s : State) : (setRunOn x l s).phase = s.phase := rfl
@[simp] theorem setRunOn_tbu (x : Subscription) (l : List RunOn) (s : State) : (setRunOn x l s).tbu = s.tbu := rfl
@[simp] theorem setRunOn_cxm (x : Subscription) (l : List RunOn) (s : State) : (setRunOn x l s).cxm = s.cxm := rfl
@[simp] theorem setRunOn_missed (x : Subscription) (l : List RunOn) (s : State) : (setRunOn x l s).missed = s.missed := rfl
@[simp] theorem setRunOn_plan (x : Subscription) (l : List RunOn) (s : State) : (setRunOn x l s).plan = s.plan := rfl
@[simp] theorem setRunOn_gens (x : Subscription) (l : List RunOn) (s : State) : (setRunOn x l s).gens = s.gens := rfl
@[simp] theorem setRunOn_patterns (x : Subscription) (l : List RunOn) (s : State) : (setRunOn x l s).patterns = s.patterns.upd x (fun p => { p with runOn := l }) := rfl
@[simp] theorem setRunOn_credit (x : Subscription) (l : List RunOn) (s : State) : (setRunOn x l s).credit = s.credit := rfl
@[simp] theorem setRunOn_air (x : Subscription) (l : List RunOn) (s : State) : (setRunOn x l s).air = s.air := rfl
@[simp] theorem setRunOn_guards (x : Subscription) (l : List RunOn) (s : State) : (setRunOn x l s).guards = s.guards := rfl
@[simp] theorem setRunOn_rsq (x : Subscription) (l : List RunOn) (s : State) : (setRunOn x l s).rsq = s.rsq := rfl
@[simp] theorem setRunOn_pgu (x : Subscription) (l : List RunOn) (s : State) : (setRunOn x l s).pgu = s.pgu := rfl
@[simp] theorem setRunOn_ceu (x : Subscription) (l : List RunOn) (s : State) : (setRunOn x l s).ceu = s.ceu := rfl
@[simp] theorem setRunOn_msu (x : Subscription) (l : List RunOn) (s : State) : (setRunOn x l s).msu = s.msu := rfl
@[simp] theorem setRunOn_selection (x : Subscription) (l : List RunOn) (s : State) : (setRunOn x l s).selection = s.selection := rfl
@[simp] theorem setRunOn_hou (x : Subscription) (l : List RunOn) (s : State) : (setRunOn x l s).hou = s.hou := rfl
@[simp] theorem setRunOn_power (x : Subscription) (l : List RunOn) (s : State) : (setRunOn x l s).power = s.power := rfl
@[simp] theorem setRunOn_csc (x : Subscription) (l : List RunOn) (s : State) : (setRunOn x l s).csc = s.csc := rfl
@[simp] theorem setRunOn_engines (x : Subscription) (l : List RunOn) (s : State) : (setRunOn x l s).engines = s.engines := rfl
@[simp] theorem setRunOn_pins (x : Subscription) (l : List RunOn) (s : State) : (setRunOn x l s).pins = s.pins := rfl
@[simp] theorem setRunOn_queues (x : Subscription) (l : List RunOn) (s : State) : (setRunOn x l s).queues = s.queues := rfl
@[simp] theorem setRunOn_votes (x : Subscription) (l : List RunOn) (s : State) : (setRunOn x l s).votes = s.votes := rfl
@[simp] theorem setRunOn_free (x : Subscription) (l : List RunOn) (s : State) : (setRunOn x l s).free = s.free := rfl
@[simp] theorem setRunOn_pending (x : Subscription) (l : List RunOn) (s : State) : (setRunOn x l s).pending = s.pending := rfl

@[simp] theorem giveNotice_phase (q : Port) (n : Notice) (s : State) :
    (giveNotice q n s).phase = s.phase := rfl
@[simp] theorem giveNotice_tbu (q : Port) (n : Notice) (s : State) :
    (giveNotice q n s).tbu = s.tbu := rfl
@[simp] theorem giveNotice_cxm (q : Port) (n : Notice) (s : State) :
    (giveNotice q n s).cxm = s.cxm := rfl
@[simp] theorem giveNotice_missed (q : Port) (n : Notice) (s : State) :
    (giveNotice q n s).missed = s.missed := rfl
@[simp] theorem giveNotice_plan (q : Port) (n : Notice) (s : State) :
    (giveNotice q n s).plan = s.plan := rfl
@[simp] theorem giveNotice_gens (q : Port) (n : Notice) (s : State) :
    (giveNotice q n s).gens = s.gens := rfl
@[simp] theorem giveNotice_patterns (q : Port) (n : Notice) (s : State) :
    (giveNotice q n s).patterns = s.patterns := rfl
@[simp] theorem giveNotice_credit (q : Port) (n : Notice) (s : State) :
    (giveNotice q n s).credit = s.credit := rfl
@[simp] theorem giveNotice_air (q : Port) (n : Notice) (s : State) :
    (giveNotice q n s).air = s.air := rfl
@[simp] theorem giveNotice_guards (q : Port) (n : Notice) (s : State) :
    (giveNotice q n s).guards = s.guards := rfl
@[simp] theorem giveNotice_rsq (q : Port) (n : Notice) (s : State) :
    (giveNotice q n s).rsq = s.rsq := rfl
@[simp] theorem giveNotice_pgu (q : Port) (n : Notice) (s : State) :
    (giveNotice q n s).pgu = s.pgu := rfl
@[simp] theorem giveNotice_ceu (q : Port) (n : Notice) (s : State) :
    (giveNotice q n s).ceu = s.ceu := rfl
@[simp] theorem giveNotice_msu (q : Port) (n : Notice) (s : State) :
    (giveNotice q n s).msu = s.msu := rfl
@[simp] theorem giveNotice_selection (q : Port) (n : Notice) (s : State) :
    (giveNotice q n s).selection = s.selection := rfl
@[simp] theorem giveNotice_hou (q : Port) (n : Notice) (s : State) :
    (giveNotice q n s).hou = s.hou := rfl
@[simp] theorem giveNotice_power (q : Port) (n : Notice) (s : State) :
    (giveNotice q n s).power = s.power := rfl
@[simp] theorem giveNotice_csc (q : Port) (n : Notice) (s : State) :
    (giveNotice q n s).csc = s.csc := rfl
@[simp] theorem giveNotice_engines (q : Port) (n : Notice) (s : State) :
    (giveNotice q n s).engines = s.engines := rfl
@[simp] theorem giveNotice_pins (q : Port) (n : Notice) (s : State) :
    (giveNotice q n s).pins = s.pins := rfl
@[simp] theorem giveNotice_queues (q : Port) (n : Notice) (s : State) :
    (giveNotice q n s).queues = s.queues.upd q (·.push n) := rfl
@[simp] theorem giveNotice_votes (q : Port) (n : Notice) (s : State) :
    (giveNotice q n s).votes = s.votes := rfl
@[simp] theorem giveNotice_free (q : Port) (n : Notice) (s : State) :
    (giveNotice q n s).free = s.free := rfl
@[simp] theorem giveNotice_pending (q : Port) (n : Notice) (s : State) :
    (giveNotice q n s).pending = s.pending := rfl

@[simp] theorem raiseMissed_phase (x : Subscription) (s : State) :
    (raiseMissed x s).phase = s.phase := rfl
@[simp] theorem raiseMissed_tbu (x : Subscription) (s : State) :
    (raiseMissed x s).tbu = s.tbu := rfl
@[simp] theorem raiseMissed_cxm (x : Subscription) (s : State) :
    (raiseMissed x s).cxm = s.cxm := rfl
@[simp] theorem raiseMissed_missed (x : Subscription) (s : State) :
    (raiseMissed x s).missed = s.missed.upd x (fun n => if n < Config.missedLimit then n + 1 else n) := rfl
@[simp] theorem raiseMissed_plan (x : Subscription) (s : State) :
    (raiseMissed x s).plan = s.plan := rfl
@[simp] theorem raiseMissed_gens (x : Subscription) (s : State) :
    (raiseMissed x s).gens = s.gens := rfl
@[simp] theorem raiseMissed_patterns (x : Subscription) (s : State) :
    (raiseMissed x s).patterns = s.patterns := rfl
@[simp] theorem raiseMissed_credit (x : Subscription) (s : State) :
    (raiseMissed x s).credit = s.credit := rfl
@[simp] theorem raiseMissed_air (x : Subscription) (s : State) :
    (raiseMissed x s).air = s.air := rfl
@[simp] theorem raiseMissed_guards (x : Subscription) (s : State) :
    (raiseMissed x s).guards = s.guards := rfl
@[simp] theorem raiseMissed_rsq (x : Subscription) (s : State) :
    (raiseMissed x s).rsq = s.rsq := rfl
@[simp] theorem raiseMissed_pgu (x : Subscription) (s : State) :
    (raiseMissed x s).pgu = s.pgu := rfl
@[simp] theorem raiseMissed_ceu (x : Subscription) (s : State) :
    (raiseMissed x s).ceu = s.ceu := rfl
@[simp] theorem raiseMissed_msu (x : Subscription) (s : State) :
    (raiseMissed x s).msu = s.msu := rfl
@[simp] theorem raiseMissed_selection (x : Subscription) (s : State) :
    (raiseMissed x s).selection = s.selection := rfl
@[simp] theorem raiseMissed_hou (x : Subscription) (s : State) :
    (raiseMissed x s).hou = s.hou := rfl
@[simp] theorem raiseMissed_power (x : Subscription) (s : State) :
    (raiseMissed x s).power = s.power := rfl
@[simp] theorem raiseMissed_csc (x : Subscription) (s : State) :
    (raiseMissed x s).csc = s.csc := rfl
@[simp] theorem raiseMissed_engines (x : Subscription) (s : State) :
    (raiseMissed x s).engines = s.engines := rfl
@[simp] theorem raiseMissed_pins (x : Subscription) (s : State) :
    (raiseMissed x s).pins = s.pins := rfl
@[simp] theorem raiseMissed_queues (x : Subscription) (s : State) :
    (raiseMissed x s).queues = s.queues := rfl
@[simp] theorem raiseMissed_votes (x : Subscription) (s : State) :
    (raiseMissed x s).votes = s.votes := rfl
@[simp] theorem raiseMissed_free (x : Subscription) (s : State) :
    (raiseMissed x s).free = s.free := rfl
@[simp] theorem raiseMissed_pending (x : Subscription) (s : State) :
    (raiseMissed x s).pending = s.pending := rfl

@[simp] theorem addEntry_phase (e : Entry) (s : State) :
    (addEntry e s).phase = s.phase := rfl
@[simp] theorem addEntry_tbu (e : Entry) (s : State) :
    (addEntry e s).tbu = s.tbu := rfl
@[simp] theorem addEntry_cxm (e : Entry) (s : State) :
    (addEntry e s).cxm = s.cxm := rfl
@[simp] theorem addEntry_missed (e : Entry) (s : State) :
    (addEntry e s).missed = s.missed := rfl
@[simp] theorem addEntry_plan (e : Entry) (s : State) :
    (addEntry e s).plan = insertByStart e s.plan := rfl
@[simp] theorem addEntry_gens (e : Entry) (s : State) :
    (addEntry e s).gens = s.gens := rfl
@[simp] theorem addEntry_patterns (e : Entry) (s : State) :
    (addEntry e s).patterns = s.patterns := rfl
@[simp] theorem addEntry_credit (e : Entry) (s : State) :
    (addEntry e s).credit = s.credit := rfl
@[simp] theorem addEntry_air (e : Entry) (s : State) :
    (addEntry e s).air = s.air := rfl
@[simp] theorem addEntry_guards (e : Entry) (s : State) :
    (addEntry e s).guards = s.guards := rfl
@[simp] theorem addEntry_rsq (e : Entry) (s : State) :
    (addEntry e s).rsq = s.rsq := rfl
@[simp] theorem addEntry_pgu (e : Entry) (s : State) :
    (addEntry e s).pgu = s.pgu := rfl
@[simp] theorem addEntry_ceu (e : Entry) (s : State) :
    (addEntry e s).ceu = s.ceu := rfl
@[simp] theorem addEntry_msu (e : Entry) (s : State) :
    (addEntry e s).msu = s.msu := rfl
@[simp] theorem addEntry_selection (e : Entry) (s : State) :
    (addEntry e s).selection = s.selection := rfl
@[simp] theorem addEntry_hou (e : Entry) (s : State) :
    (addEntry e s).hou = s.hou := rfl
@[simp] theorem addEntry_power (e : Entry) (s : State) :
    (addEntry e s).power = s.power := rfl
@[simp] theorem addEntry_csc (e : Entry) (s : State) :
    (addEntry e s).csc = s.csc := rfl
@[simp] theorem addEntry_engines (e : Entry) (s : State) :
    (addEntry e s).engines = s.engines := rfl
@[simp] theorem addEntry_pins (e : Entry) (s : State) :
    (addEntry e s).pins = s.pins := rfl
@[simp] theorem addEntry_queues (e : Entry) (s : State) :
    (addEntry e s).queues = s.queues := rfl
@[simp] theorem addEntry_votes (e : Entry) (s : State) :
    (addEntry e s).votes = s.votes := rfl
@[simp] theorem addEntry_free (e : Entry) (s : State) :
    (addEntry e s).free = s.free := rfl
@[simp] theorem addEntry_pending (e : Entry) (s : State) :
    (addEntry e s).pending = s.pending := rfl

@[simp] theorem raiseGen_phase (i : Fin 48) (s : State) :
    (raiseGen i s).phase = s.phase := rfl
@[simp] theorem raiseGen_tbu (i : Fin 48) (s : State) :
    (raiseGen i s).tbu = s.tbu := rfl
@[simp] theorem raiseGen_cxm (i : Fin 48) (s : State) :
    (raiseGen i s).cxm = s.cxm := rfl
@[simp] theorem raiseGen_missed (i : Fin 48) (s : State) :
    (raiseGen i s).missed = s.missed := rfl
@[simp] theorem raiseGen_plan (i : Fin 48) (s : State) :
    (raiseGen i s).plan = s.plan := rfl
@[simp] theorem raiseGen_gens (i : Fin 48) (s : State) :
    (raiseGen i s).gens = s.gens.set i (s.gens[i] + 1) := rfl
@[simp] theorem raiseGen_patterns (i : Fin 48) (s : State) :
    (raiseGen i s).patterns = s.patterns := rfl
@[simp] theorem raiseGen_credit (i : Fin 48) (s : State) :
    (raiseGen i s).credit = s.credit := rfl
@[simp] theorem raiseGen_air (i : Fin 48) (s : State) :
    (raiseGen i s).air = s.air := rfl
@[simp] theorem raiseGen_guards (i : Fin 48) (s : State) :
    (raiseGen i s).guards = s.guards := rfl
@[simp] theorem raiseGen_rsq (i : Fin 48) (s : State) :
    (raiseGen i s).rsq = s.rsq := rfl
@[simp] theorem raiseGen_pgu (i : Fin 48) (s : State) :
    (raiseGen i s).pgu = s.pgu := rfl
@[simp] theorem raiseGen_ceu (i : Fin 48) (s : State) :
    (raiseGen i s).ceu = s.ceu := rfl
@[simp] theorem raiseGen_msu (i : Fin 48) (s : State) :
    (raiseGen i s).msu = s.msu := rfl
@[simp] theorem raiseGen_selection (i : Fin 48) (s : State) :
    (raiseGen i s).selection = s.selection := rfl
@[simp] theorem raiseGen_hou (i : Fin 48) (s : State) :
    (raiseGen i s).hou = s.hou := rfl
@[simp] theorem raiseGen_power (i : Fin 48) (s : State) :
    (raiseGen i s).power = s.power := rfl
@[simp] theorem raiseGen_csc (i : Fin 48) (s : State) :
    (raiseGen i s).csc = s.csc := rfl
@[simp] theorem raiseGen_engines (i : Fin 48) (s : State) :
    (raiseGen i s).engines = s.engines := rfl
@[simp] theorem raiseGen_pins (i : Fin 48) (s : State) :
    (raiseGen i s).pins = s.pins := rfl
@[simp] theorem raiseGen_queues (i : Fin 48) (s : State) :
    (raiseGen i s).queues = s.queues := rfl
@[simp] theorem raiseGen_votes (i : Fin 48) (s : State) :
    (raiseGen i s).votes = s.votes := rfl
@[simp] theorem raiseGen_free (i : Fin 48) (s : State) :
    (raiseGen i s).free = s.free := rfl
@[simp] theorem raiseGen_pending (i : Fin 48) (s : State) :
    (raiseGen i s).pending = s.pending := rfl

@[simp] theorem modifyEntry_phase (h : Handle) (f : Entry → Entry) (s : State) :
    (modifyEntry h f s).phase = s.phase := rfl
@[simp] theorem modifyEntry_tbu (h : Handle) (f : Entry → Entry) (s : State) :
    (modifyEntry h f s).tbu = s.tbu := rfl
@[simp] theorem modifyEntry_cxm (h : Handle) (f : Entry → Entry) (s : State) :
    (modifyEntry h f s).cxm = s.cxm := rfl
@[simp] theorem modifyEntry_missed (h : Handle) (f : Entry → Entry) (s : State) :
    (modifyEntry h f s).missed = s.missed := rfl
@[simp] theorem modifyEntry_plan (h : Handle) (f : Entry → Entry) (s : State) :
    (modifyEntry h f s).plan = s.plan.map (fun e => if e.handle == h then f e else e) := rfl
@[simp] theorem modifyEntry_gens (h : Handle) (f : Entry → Entry) (s : State) :
    (modifyEntry h f s).gens = s.gens := rfl
@[simp] theorem modifyEntry_patterns (h : Handle) (f : Entry → Entry) (s : State) :
    (modifyEntry h f s).patterns = s.patterns := rfl
@[simp] theorem modifyEntry_credit (h : Handle) (f : Entry → Entry) (s : State) :
    (modifyEntry h f s).credit = s.credit := rfl
@[simp] theorem modifyEntry_air (h : Handle) (f : Entry → Entry) (s : State) :
    (modifyEntry h f s).air = s.air := rfl
@[simp] theorem modifyEntry_guards (h : Handle) (f : Entry → Entry) (s : State) :
    (modifyEntry h f s).guards = s.guards := rfl
@[simp] theorem modifyEntry_rsq (h : Handle) (f : Entry → Entry) (s : State) :
    (modifyEntry h f s).rsq = s.rsq := rfl
@[simp] theorem modifyEntry_pgu (h : Handle) (f : Entry → Entry) (s : State) :
    (modifyEntry h f s).pgu = s.pgu := rfl
@[simp] theorem modifyEntry_ceu (h : Handle) (f : Entry → Entry) (s : State) :
    (modifyEntry h f s).ceu = s.ceu := rfl
@[simp] theorem modifyEntry_msu (h : Handle) (f : Entry → Entry) (s : State) :
    (modifyEntry h f s).msu = s.msu := rfl
@[simp] theorem modifyEntry_selection (h : Handle) (f : Entry → Entry) (s : State) :
    (modifyEntry h f s).selection = s.selection := rfl
@[simp] theorem modifyEntry_hou (h : Handle) (f : Entry → Entry) (s : State) :
    (modifyEntry h f s).hou = s.hou := rfl
@[simp] theorem modifyEntry_power (h : Handle) (f : Entry → Entry) (s : State) :
    (modifyEntry h f s).power = s.power := rfl
@[simp] theorem modifyEntry_csc (h : Handle) (f : Entry → Entry) (s : State) :
    (modifyEntry h f s).csc = s.csc := rfl
@[simp] theorem modifyEntry_engines (h : Handle) (f : Entry → Entry) (s : State) :
    (modifyEntry h f s).engines = s.engines := rfl
@[simp] theorem modifyEntry_pins (h : Handle) (f : Entry → Entry) (s : State) :
    (modifyEntry h f s).pins = s.pins := rfl
@[simp] theorem modifyEntry_queues (h : Handle) (f : Entry → Entry) (s : State) :
    (modifyEntry h f s).queues = s.queues := rfl
@[simp] theorem modifyEntry_votes (h : Handle) (f : Entry → Entry) (s : State) :
    (modifyEntry h f s).votes = s.votes := rfl
@[simp] theorem modifyEntry_free (h : Handle) (f : Entry → Entry) (s : State) :
    (modifyEntry h f s).free = s.free := rfl
@[simp] theorem modifyEntry_pending (h : Handle) (f : Entry → Entry) (s : State) :
    (modifyEntry h f s).pending = s.pending := rfl

@[simp] theorem setEngine_phase (q : Port) (e : Engine) (s : State) :
    (setEngine q e s).phase = s.phase := rfl
@[simp] theorem setEngine_tbu (q : Port) (e : Engine) (s : State) :
    (setEngine q e s).tbu = s.tbu := rfl
@[simp] theorem setEngine_cxm (q : Port) (e : Engine) (s : State) :
    (setEngine q e s).cxm = s.cxm := rfl
@[simp] theorem setEngine_missed (q : Port) (e : Engine) (s : State) :
    (setEngine q e s).missed = s.missed := rfl
@[simp] theorem setEngine_plan (q : Port) (e : Engine) (s : State) :
    (setEngine q e s).plan = s.plan := rfl
@[simp] theorem setEngine_gens (q : Port) (e : Engine) (s : State) :
    (setEngine q e s).gens = s.gens := rfl
@[simp] theorem setEngine_patterns (q : Port) (e : Engine) (s : State) :
    (setEngine q e s).patterns = s.patterns := rfl
@[simp] theorem setEngine_credit (q : Port) (e : Engine) (s : State) :
    (setEngine q e s).credit = s.credit := rfl
@[simp] theorem setEngine_air (q : Port) (e : Engine) (s : State) :
    (setEngine q e s).air = s.air := rfl
@[simp] theorem setEngine_guards (q : Port) (e : Engine) (s : State) :
    (setEngine q e s).guards = s.guards := rfl
@[simp] theorem setEngine_rsq (q : Port) (e : Engine) (s : State) :
    (setEngine q e s).rsq = s.rsq := rfl
@[simp] theorem setEngine_pgu (q : Port) (e : Engine) (s : State) :
    (setEngine q e s).pgu = s.pgu := rfl
@[simp] theorem setEngine_ceu (q : Port) (e : Engine) (s : State) :
    (setEngine q e s).ceu = s.ceu := rfl
@[simp] theorem setEngine_msu (q : Port) (e : Engine) (s : State) :
    (setEngine q e s).msu = s.msu := rfl
@[simp] theorem setEngine_selection (q : Port) (e : Engine) (s : State) :
    (setEngine q e s).selection = s.selection := rfl
@[simp] theorem setEngine_hou (q : Port) (e : Engine) (s : State) :
    (setEngine q e s).hou = s.hou := rfl
@[simp] theorem setEngine_power (q : Port) (e : Engine) (s : State) :
    (setEngine q e s).power = s.power := rfl
@[simp] theorem setEngine_csc (q : Port) (e : Engine) (s : State) :
    (setEngine q e s).csc = s.csc := rfl
@[simp] theorem setEngine_engines (q : Port) (e : Engine) (s : State) :
    (setEngine q e s).engines = s.engines.set q e := rfl
@[simp] theorem setEngine_pins (q : Port) (e : Engine) (s : State) :
    (setEngine q e s).pins = s.pins := rfl
@[simp] theorem setEngine_queues (q : Port) (e : Engine) (s : State) :
    (setEngine q e s).queues = s.queues := rfl
@[simp] theorem setEngine_votes (q : Port) (e : Engine) (s : State) :
    (setEngine q e s).votes = s.votes := rfl
@[simp] theorem setEngine_free (q : Port) (e : Engine) (s : State) :
    (setEngine q e s).free = s.free := rfl
@[simp] theorem setEngine_pending (q : Port) (e : Engine) (s : State) :
    (setEngine q e s).pending = s.pending := rfl

@[simp] theorem putVote_phase (q : Port) (v : Bool) (s : State) :
    (putVote q v s).phase = s.phase := rfl
@[simp] theorem putVote_tbu (q : Port) (v : Bool) (s : State) :
    (putVote q v s).tbu = s.tbu := rfl
@[simp] theorem putVote_cxm (q : Port) (v : Bool) (s : State) :
    (putVote q v s).cxm = s.cxm := rfl
@[simp] theorem putVote_missed (q : Port) (v : Bool) (s : State) :
    (putVote q v s).missed = s.missed := rfl
@[simp] theorem putVote_plan (q : Port) (v : Bool) (s : State) :
    (putVote q v s).plan = s.plan := rfl
@[simp] theorem putVote_gens (q : Port) (v : Bool) (s : State) :
    (putVote q v s).gens = s.gens := rfl
@[simp] theorem putVote_patterns (q : Port) (v : Bool) (s : State) :
    (putVote q v s).patterns = s.patterns := rfl
@[simp] theorem putVote_credit (q : Port) (v : Bool) (s : State) :
    (putVote q v s).credit = s.credit := rfl
@[simp] theorem putVote_air (q : Port) (v : Bool) (s : State) :
    (putVote q v s).air = s.air := rfl
@[simp] theorem putVote_guards (q : Port) (v : Bool) (s : State) :
    (putVote q v s).guards = s.guards := rfl
@[simp] theorem putVote_rsq (q : Port) (v : Bool) (s : State) :
    (putVote q v s).rsq = s.rsq := rfl
@[simp] theorem putVote_pgu (q : Port) (v : Bool) (s : State) :
    (putVote q v s).pgu = s.pgu := rfl
@[simp] theorem putVote_ceu (q : Port) (v : Bool) (s : State) :
    (putVote q v s).ceu = s.ceu := rfl
@[simp] theorem putVote_msu (q : Port) (v : Bool) (s : State) :
    (putVote q v s).msu = s.msu := rfl
@[simp] theorem putVote_selection (q : Port) (v : Bool) (s : State) :
    (putVote q v s).selection = s.selection := rfl
@[simp] theorem putVote_hou (q : Port) (v : Bool) (s : State) :
    (putVote q v s).hou = s.hou := rfl
@[simp] theorem putVote_power (q : Port) (v : Bool) (s : State) :
    (putVote q v s).power = s.power := rfl
@[simp] theorem putVote_csc (q : Port) (v : Bool) (s : State) :
    (putVote q v s).csc = s.csc := rfl
@[simp] theorem putVote_engines (q : Port) (v : Bool) (s : State) :
    (putVote q v s).engines = s.engines := rfl
@[simp] theorem putVote_pins (q : Port) (v : Bool) (s : State) :
    (putVote q v s).pins = s.pins := rfl
@[simp] theorem putVote_queues (q : Port) (v : Bool) (s : State) :
    (putVote q v s).queues = s.queues := rfl
@[simp] theorem putVote_votes (q : Port) (v : Bool) (s : State) :
    (putVote q v s).votes = s.votes.set q v := rfl
@[simp] theorem putVote_free (q : Port) (v : Bool) (s : State) :
    (putVote q v s).free = s.free := rfl
@[simp] theorem putVote_pending (q : Port) (v : Bool) (s : State) :
    (putVote q v s).pending = s.pending := rfl

end Machine

end Sys2Proof
end

