-- ==== Sys2Proof/Laws/Frame.lean ====
section
/-! SUPPORT. What the shared operations leave alone. `base` gathers the blocks that no operation on the plan, the patterns,
the link or the power decision touches, with the bound of the notice queues; one lemma per operation says that it keeps
them, and one that it keeps the tune-away credit where it does. -/

namespace Sys2Proof.Machine

/-- What the start of a gap leaves of the measurement state: all but the ring pointer and the round (R134). -/
def Msu.still (m : Msu) : Msu := { m with pointer := 0, round := 0 }

def stillAll (m : PerSub Msu) : PerSub Msu := { a := m.a.still, b := m.b.still }

theorem still_of_stillAll {m n : PerSub Msu} (h : stillAll m = stillAll n) (x : Subscription) :
    (m.get x).still = (n.get x).still := by
  cases x
  · exact congrArg PerSub.a h
  · exact congrArg PerSub.b h

/-- The blocks that the plan, the patterns, the link and the power decision leave alone, the pointer and the round of a ring
apart, and whether the notice queues keep their bound (R191). -/
structure Base where
  phase : Phase
  tbu : Tbu
  cxm : PerSub Context
  air : AirSettings
  ceu : Ceu
  msu : PerSub Msu
  hou : PerSub Hou
  csc : Csc
  engines : PerPort Engine
  pins : Pins
  votes : PerPort Bool
  free : Nat
  pending : List Instr
  bounded : Bool

def base (s : State) : Base :=
  { phase := s.phase, tbu := s.tbu, cxm := s.cxm, air := s.air, ceu := s.ceu, msu := stillAll s.msu, hou := s.hou, csc := s.csc,
    engines := s.engines, pins := s.pins, votes := s.votes, free := s.free, pending := s.pending,
    bounded := queuesBounded s }

theorem phase_of_base {s t : State} (h : base t = base s) : t.phase = s.phase := congrArg Base.phase h
theorem tbu_of_base {s t : State} (h : base t = base s) : t.tbu = s.tbu := congrArg Base.tbu h
theorem cxm_of_base {s t : State} (h : base t = base s) : t.cxm = s.cxm := congrArg Base.cxm h
theorem air_of_base {s t : State} (h : base t = base s) : t.air = s.air := congrArg Base.air h
theorem ceu_of_base {s t : State} (h : base t = base s) : t.ceu = s.ceu := congrArg Base.ceu h
theorem msu_of_base {s t : State} (h : base t = base s) : stillAll t.msu = stillAll s.msu := congrArg Base.msu h
theorem hou_of_base {s t : State} (h : base t = base s) : t.hou = s.hou := congrArg Base.hou h
theorem csc_of_base {s t : State} (h : base t = base s) : t.csc = s.csc := congrArg Base.csc h
theorem engines_of_base {s t : State} (h : base t = base s) : t.engines = s.engines := congrArg Base.engines h
theorem pins_of_base {s t : State} (h : base t = base s) : t.pins = s.pins := congrArg Base.pins h
theorem votes_of_base {s t : State} (h : base t = base s) : t.votes = s.votes := congrArg Base.votes h
theorem free_of_base {s t : State} (h : base t = base s) : t.free = s.free := congrArg Base.free h
theorem pending_of_base {s t : State} (h : base t = base s) : t.pending = s.pending := congrArg Base.pending h
theorem bounded_of_base {s t : State} (h : base t = base s) : queuesBounded t = queuesBounded s := congrArg Base.bounded h

@[simp] theorem base_setSelection (x : Subscription) (v : Option Selection) (s : State) : base (setSelection x v s) = base s := rfl
@[simp] theorem credit_setSelection (x : Subscription) (v : Option Selection) (s : State) : (setSelection x v s).credit = s.credit := rfl
@[simp] theorem base_updPgu (x : Subscription) (f : Pgu → Pgu) (s : State) : base (updPgu x f s) = base s := rfl
@[simp] theorem credit_updPgu (x : Subscription) (f : Pgu → Pgu) (s : State) : (updPgu x f s).credit = s.credit := rfl
@[simp] theorem base_updRsq (f : Rsq → Rsq) (s : State) : base (updRsq f s) = base s := rfl
@[simp] theorem credit_updRsq (f : Rsq → Rsq) (s : State) : (updRsq f s).credit = s.credit := rfl
@[simp] theorem base_updPower (f : Power → Power) (s : State) : base (updPower f s) = base s := rfl
@[simp] theorem credit_updPower (f : Power → Power) (s : State) : (updPower f s).credit = s.credit := rfl
@[simp] theorem base_updPattern (x : Subscription) (k : Pat) (f : Pattern → Pattern) (s : State) : base (updPattern x k f s) = base s := rfl
@[simp] theorem credit_updPattern (x : Subscription) (k : Pat) (f : Pattern → Pattern) (s : State) : (updPattern x k f s).credit = s.credit := rfl
@[simp] theorem base_raiseMissed (x : Subscription) (s : State) : base (raiseMissed x s) = base s := rfl
@[simp] theorem credit_raiseMissed (x : Subscription) (s : State) : (raiseMissed x s).credit = s.credit := rfl
@[simp] theorem base_modifyEntry (h : Handle) (f : Entry → Entry) (s : State) : base (modifyEntry h f s) = base s := rfl
@[simp] theorem credit_modifyEntry (h : Handle) (f : Entry → Entry) (s : State) : (modifyEntry h f s).credit = s.credit := rfl
@[simp] theorem base_addEntry (e : Entry) (s : State) : base (addEntry e s) = base s := rfl
@[simp] theorem credit_addEntry (e : Entry) (s : State) : (addEntry e s).credit = s.credit := rfl
@[simp] theorem base_raiseGen (i : Fin 48) (s : State) : base (raiseGen i s) = base s := rfl
@[simp] theorem credit_raiseGen (i : Fin 48) (s : State) : (raiseGen i s).credit = s.credit := rfl
@[simp] theorem base_dropListen (x : Subscription) (h : Handle) (s : State) : base (dropListen x h s) = base s := rfl
@[simp] theorem credit_dropListen (x : Subscription) (h : Handle) (s : State) : (dropListen x h s).credit = s.credit := rfl
@[simp] theorem base_dropRead (x : Subscription) (h : Handle) (s : State) : base (dropRead x h s) = base s := rfl
@[simp] theorem credit_dropRead (x : Subscription) (h : Handle) (s : State) : (dropRead x h s).credit = s.credit := rfl
@[simp] theorem base_dropSelection (x : Subscription) (h : Handle) (s : State) : base (dropSelection x h s) = base s := rfl
@[simp] theorem credit_dropSelection (x : Subscription) (h : Handle) (s : State) : (dropSelection x h s).credit = s.credit := rfl
@[simp] theorem base_clearPending (x : Subscription) (k : Pat) (s : State) : base (clearPending x k s) = base s := rfl
@[simp] theorem credit_clearPending (x : Subscription) (k : Pat) (s : State) : (clearPending x k s).credit = s.credit := rfl

theorem queueBounded_push (q : NoticeQueue) (n : Notice) : queueBounded (q.push n) = queueBounded q := by
  by_cases h : q.items.length < 16
  · simp [NoticeQueue.push, Config.queueCapacity, queueBounded, h]; omega
  · simp [NoticeQueue.push, Config.queueCapacity, queueBounded, h]

@[simp] theorem base_giveNotice (q : Port) (n : Notice) (s : State) : base (giveNotice q n s) = base s := by
  cases q <;> simp [base, queuesBounded, giveNotice, PerPort.upd, PerPort.set, PerPort.get, queueBounded_push]
@[simp] theorem credit_giveNotice (q : Port) (n : Notice) (s : State) : (giveNotice q n s).credit = s.credit := rfl
@[simp] theorem base_notifyAt (x : Subscription) (t : LT) (b : NoticeBody) (s : State) : base (notifyAt x t b s) = base s := by simp [notifyAt]
@[simp] theorem credit_notifyAt (x : Subscription) (t : LT) (b : NoticeBody) (s : State) : (notifyAt x t b s).credit = s.credit := by simp [notifyAt]
@[simp] theorem base_notify (x : Subscription) (b : NoticeBody) (s : State) : base (notify x b s) = base s := by simp [notify]
@[simp] theorem credit_notify (x : Subscription) (b : NoticeBody) (s : State) : (notify x b s).credit = s.credit := by simp [notify]
@[simp] theorem base_notifyAppAt (x : Subscription) (t : LT) (b : NoticeBody) (s : State) : base (notifyAppAt x t b s) = base s := by simp [notifyAppAt]
@[simp] theorem credit_notifyAppAt (x : Subscription) (t : LT) (b : NoticeBody) (s : State) : (notifyAppAt x t b s).credit = s.credit := by simp [notifyAppAt]
@[simp] theorem base_notifyBare (q : Port) (b : NoticeBody) (s : State) : base (notifyBare q b s) = base s := by simp [notifyBare]
@[simp] theorem credit_notifyBare (q : Port) (b : NoticeBody) (s : State) : (notifyBare q b s).credit = s.credit := by simp [notifyBare]
@[simp] theorem base_notifyAll (b : NoticeBody) (s : State) : base (notifyAll b s) = base s := by simp [notifyAll]
@[simp] theorem credit_notifyAll (b : NoticeBody) (s : State) : (notifyAll b s).credit = s.credit := by simp [notifyAll]
@[simp] theorem base_pageMissed (x : Subscription) (k : Kind) (f : FN) (r : Reason) (s : State) : base (pageMissed x k f r s) = base s := by simp [pageMissed]
@[simp] theorem credit_pageMissed (x : Subscription) (k : Kind) (f : FN) (r : Reason) (s : State) : (pageMissed x k f r s).credit = s.credit := by simp [pageMissed]
@[simp] theorem base_demand (c : Cmd) (s : State) : base (demand c s) = base s := by
  unfold demand; (repeat' split) <;> simp
@[simp] theorem credit_demand (c : Cmd) (s : State) : (demand c s).credit = s.credit := by
  unfold demand; (repeat' split) <;> simp
@[simp] theorem base_removeEntry (h : Handle) (s : State) : base (removeEntry h s) = base s := by
  unfold removeEntry; split <;> rfl
@[simp] theorem credit_removeEntry (h : Handle) (s : State) : (removeEntry h s).credit = s.credit := by
  unfold removeEntry; split <;> rfl
@[simp] theorem base_tellLoss (x : Subscription) (l : Option LossDetail) (s : State) : base (tellLoss x l s) = base s := by
  unfold tellLoss; (repeat' split) <;> simp
@[simp] theorem credit_tellLoss (x : Subscription) (l : Option LossDetail) (s : State) : (tellLoss x l s).credit = s.credit := by
  unfold tellLoss; (repeat' split) <;> simp
@[simp] theorem base_setRunOn (x : Subscription) (l : List RunOn) (s : State) : base (setRunOn x l s) = base s := rfl
@[simp] theorem credit_setRunOn (x : Subscription) (l : List RunOn) (s : State) : (setRunOn x l s).credit = s.credit := rfl
@[simp] theorem base_runOnGone (x : Subscription) (h : Handle) (l : Option LossDetail) (s : State) : base (runOnGone x h l s) = base s := by
  unfold runOnGone; dsimp only; (repeat' split) <;> simp
@[simp] theorem credit_runOnGone (x : Subscription) (h : Handle) (l : Option LossDetail) (s : State) : (runOnGone x h l s).credit = s.credit := by
  unfold runOnGone; dsimp only; (repeat' split) <;> simp
@[simp] theorem base_letRunOn (x : Subscription) (k : Pat) (s : State) : base (letRunOn x k s) = base s := by
  unfold letRunOn; dsimp only; (repeat' split) <;> simp
@[simp] theorem credit_letRunOn (x : Subscription) (k : Pat) (s : State) : (letRunOn x k s).credit = s.credit := by
  unfold letRunOn; dsimp only; (repeat' split) <;> simp
@[simp] theorem base_memberGone (x : Subscription) (k : Pat) (h : Handle) (l : Option LossDetail) (s : State) : base (memberGone x k h l s) = base s := by
  unfold memberGone; dsimp only; (repeat' split) <;> simp
@[simp] theorem credit_memberGone (x : Subscription) (k : Pat) (h : Handle) (l : Option LossDetail) (s : State) : (memberGone x k h l s).credit = s.credit := by
  unfold memberGone; dsimp only; (repeat' split) <;> simp
@[simp] theorem base_tellLost (e : Entry) (w : LossKind) (r : Reason) (s : State) : base (tellLost e w r s) = base s := by
  unfold tellLost; (repeat' split) <;> simp
@[simp] theorem credit_tellLost (e : Entry) (w : LossKind) (r : Reason) (s : State) : (tellLost e w r s).credit = s.credit := by
  unfold tellLost; (repeat' split) <;> simp
@[simp] theorem base_partnerLeaves (e : Entry) (s : State) : base (partnerLeaves e s) = base s := by
  unfold partnerLeaves; (repeat' split) <;> simp
@[simp] theorem credit_partnerLeaves (e : Entry) (s : State) : (partnerLeaves e s).credit = s.credit := by
  unfold partnerLeaves; (repeat' split) <;> simp
@[simp] theorem base_dropReads (h : Handle) (s : State) : base (dropReads h s) = base s := rfl
@[simp] theorem credit_dropReads (h : Handle) (s : State) : (dropReads h s).credit = s.credit := rfl
@[simp] theorem base_cutOff (e : Entry) (s : State) : base (cutOff e s) = base s := by
  unfold cutOff; split <;> simp
@[simp] theorem credit_cutOff (e : Entry) (s : State) : (cutOff e s).credit = s.credit := by
  unfold cutOff; split <;> simp
@[simp] theorem dropReads_plan (h : Handle) (s : State) : (dropReads h s).plan = s.plan := rfl
@[simp] theorem dropReads_link (h : Handle) (s : State) : (dropReads h s).rsq.link = s.rsq.link := rfl
/-- All that `cutOff` does: one OFF waits behind what waited but for the entry's reads, and none where it is not EXECUTING. -/
theorem cutOff_waiting (e : Entry) (s : State) (h : s.rsq.link = .up) :
    (cutOff e s).rsq.waiting =
      if e.state = .executing then s.rsq.waiting.filter (fun c => !isReadOf e.handle c) ++ [.off .none]
      else s.rsq.waiting := by
  unfold cutOff; split <;> simp [demand, dropReads, updRsq, h]
@[simp] theorem cutOff_plan (e : Entry) (s : State) : (cutOff e s).plan = s.plan := by
  unfold cutOff demand; (repeat' split) <;> rfl
@[simp] theorem base_offAtOnce (e : Entry) (s : State) : base (offAtOnce e s) = base s := by
  unfold offAtOnce; (repeat' split) <;> simp
@[simp] theorem credit_offAtOnce (e : Entry) (s : State) : (offAtOnce e s).credit = s.credit := by
  unfold offAtOnce; (repeat' split) <;> simp
@[simp] theorem base_abortEntry (e : Entry) (r : Reason) (s : State) : base (abortEntry e r s) = base s := by simp [abortEntry]
@[simp] theorem credit_abortEntry (e : Entry) (r : Reason) (s : State) : (abortEntry e r s).credit = s.credit := by simp [abortEntry]
@[simp] theorem base_displaceEntry (e : Entry) (r : Reason) (s : State) : base (displaceEntry e r s) = base s := by simp [displaceEntry]
@[simp] theorem credit_displaceEntry (e : Entry) (r : Reason) (s : State) : (displaceEntry e r s).credit = s.credit := by simp [displaceEntry]
@[simp] theorem base_cutEntry (e : Entry) (r : Reason) (s : State) : base (cutEntry e r s) = base s := by simp [cutEntry]
@[simp] theorem credit_cutEntry (e : Entry) (r : Reason) (s : State) : (cutEntry e r s).credit = s.credit := by simp [cutEntry]
@[simp] theorem base_dropEntry (e : Entry) (s : State) : base (dropEntry e s) = base s := by simp [dropEntry]
@[simp] theorem credit_dropEntry (e : Entry) (s : State) : (dropEntry e s).credit = s.credit := by simp [dropEntry]

theorem base_forEntries {f : Entry → State → State} (hf : ∀ e s, base (f e s) = base s) (es : List Entry) (s : State) :
    base (forEntries f es s) = base s := by
  induction es generalizing s with
  | nil => rfl
  | cons e es ih => rw [forEntries, ih, hf]

theorem credit_forEntries {f : Entry → State → State} (hf : ∀ e s, (f e s).credit = s.credit) (es : List Entry)
    (s : State) : (forEntries f es s).credit = s.credit := by
  induction es generalizing s with
  | nil => rfl
  | cons e es ih => rw [forEntries, ih, hf]

@[simp] theorem base_flushEntry (e : Entry) (s : State) : base (flushEntry e s) = base s := by
  unfold flushEntry; (repeat' split) <;> simp
@[simp] theorem credit_flushEntry (e : Entry) (s : State) : (flushEntry e s).credit = s.credit := by
  unfold flushEntry; (repeat' split) <;> simp
@[simp] theorem base_flushSub (x : Subscription) (s : State) : base (flushSub x s) = base s := base_forEntries (by simp) _ _
@[simp] theorem credit_flushSub (x : Subscription) (s : State) : (flushSub x s).credit = s.credit := credit_forEntries (by simp) _ _
@[simp] theorem base_thriftEntry (e : Entry) (s : State) : base (thriftEntry e s) = base s := by
  unfold thriftEntry; (repeat' split) <;> simp
@[simp] theorem credit_thriftEntry (e : Entry) (s : State) : (thriftEntry e s).credit = s.credit := by
  unfold thriftEntry; (repeat' split) <;> simp
@[simp] theorem base_thriftBegins  (s : State) : base (thriftBegins s) = base s := base_forEntries (by simp) _ _
@[simp] theorem credit_thriftBegins  (s : State) : (thriftBegins s).credit = s.credit := credit_forEntries (by simp) _ _
@[simp] theorem base_endExchEntries (x : Subscription) (s : State) : base (endExchEntries x s) = base s := base_forEntries (by simp) _ _
@[simp] theorem credit_endExchEntries (x : Subscription) (s : State) : (endExchEntries x s).credit = s.credit := credit_forEntries (by simp) _ _
@[simp] theorem base_guardTest  (s : State) : base (guardTest s) = base s := rfl
@[simp] theorem credit_guardTest  (s : State) : (guardTest s).credit = s.credit := rfl
@[simp] theorem base_cutBack (ms : List Entry) (e : Entry) (s : State) : base (cutBack ms e s) = base s := by
  unfold cutBack; (repeat' split) <;> simp
@[simp] theorem credit_cutBack (ms : List Entry) (e : Entry) (s : State) : (cutBack ms e s).credit = s.credit := by
  unfold cutBack; (repeat' split) <;> simp
@[simp] theorem base_defeat (ms : List Entry) (e : Entry) (s : State) : base (defeat ms e s) = base s := by
  unfold defeat; (repeat' split) <;> simp
@[simp] theorem credit_defeat (ms : List Entry) (e : Entry) (s : State) : (defeat ms e s).credit = s.credit := by
  unfold defeat; (repeat' split) <;> simp
@[simp] theorem base_yieldTurn (x : Subscription) (h : Handle) (s : State) : base (yieldTurn x h s) = base s := by
  unfold yieldTurn; (repeat' split) <;> simp
@[simp] theorem credit_yieldTurn (x : Subscription) (h : Handle) (s : State) : (yieldTurn x h s).credit = s.credit := by
  unfold yieldTurn; (repeat' split) <;> simp
@[simp] theorem base_yieldEntry (e : Entry) (s : State) : base (yieldEntry e s) = base s := by
  unfold yieldEntry; (repeat' split) <;> simp
@[simp] theorem credit_yieldEntry (e : Entry) (s : State) : (yieldEntry e s).credit = s.credit := by
  unfold yieldEntry; (repeat' split) <;> simp
@[simp] theorem base_spendCredit (n : Nat) (s : State) : base (spendCredit n s) = base s := rfl

@[simp] theorem base_linkPartners (h g : Handle) (s : State) : base (linkPartners h g s) = base s := rfl
@[simp] theorem credit_linkPartners (h g : Handle) (s : State) : (linkPartners h g s).credit = s.credit := rfl

@[simp] theorem base_placeOne (m : Bool) (e : Entry) (s : State) : base (placeOne m e s).2 = base s := by
  unfold placeOne; (repeat' split) <;> simp
@[simp] theorem credit_placeOne (m : Bool) (e : Entry) (s : State) : (placeOne m e s).2.credit = s.credit := by
  unfold placeOne; (repeat' split) <;> simp

@[simp] theorem base_place (m : Bool) (es : List Entry) (s : State) : base (place m es s).2 = base s := by
  unfold place; (repeat' split) <;> simp
@[simp] theorem credit_place (m : Bool) (es : List Entry) (s : State) : (place m es s).2.credit = s.credit := by
  unfold place; (repeat' split) <;> simp

/-- The credit is only spent, and the refill count stands (R55 to R57). -/
def CreditSpent (s t : State) : Prop := t.credit.credit ≤ s.credit.credit ∧ t.credit.refill = s.credit.refill

theorem CreditSpent.refl (s : State) : CreditSpent s s := ⟨Nat.le_refl _, rfl⟩
theorem CreditSpent.trans {s t u : State} (h : CreditSpent s t) (k : CreditSpent t u) : CreditSpent s u :=
  ⟨Nat.le_trans k.1 h.1, k.2.trans h.2⟩
theorem CreditSpent.of_eq {s t : State} (h : t.credit = s.credit) : CreditSpent s t := by
  unfold CreditSpent; rw [h]; exact ⟨Nat.le_refl _, rfl⟩
theorem CreditSpent.then_eq {s t u : State} (h : CreditSpent s t) (k : u.credit = t.credit) : CreditSpent s u :=
  h.trans (.of_eq k)
theorem CreditSpent.after_eq {s t u : State} (h : t.credit = s.credit) (k : CreditSpent t u) : CreditSpent s u :=
  (CreditSpent.of_eq h).trans k
theorem CreditSpent.spend (n : Nat) (s : State) : CreditSpent s (spendCredit n s) := ⟨Nat.sub_le _ _, rfl⟩

/-- The state a verdict leaves; a refusal changes nothing. -/
def Verdict.after (v : Verdict) (s : State) : State :=
  match v with
  | .admitted _ t => t
  | .refused _ _ => s
  | .yielded t => t

theorem base_admit (m : Bool) (ms : List Entry) (s : State) : base ((admitEntries m ms s).after s) = base s := by
  unfold admitEntries; (repeat' split) <;> simp [Verdict.after, base_forEntries]

theorem spent_admit (m : Bool) (ms : List Entry) (s : State) : CreditSpent s ((admitEntries m ms s).after s) := by
  unfold admitEntries
  (repeat' split) <;> simp only [Verdict.after] <;>
  first
  | exact .refl s
  | exact (CreditSpent.after_eq (credit_forEntries (by simp) _ s) (.spend _ _)).then_eq (credit_place _ _ _)
  | exact (CreditSpent.spend _ s).then_eq (credit_notify _ _ _)
  | exact .of_eq (by simp [credit_forEntries])

theorem base_admitted {m : Bool} {ms : List Entry} {s t : State} {hs : List Handle}
    (h : admitEntries m ms s = .admitted hs t) : base t = base s := by
  have := base_admit m ms s; rwa [h] at this
theorem base_yielded {m : Bool} {ms : List Entry} {s t : State} (h : admitEntries m ms s = .yielded t) : base t = base s := by
  have := base_admit m ms s; rwa [h] at this
theorem spent_admitted {m : Bool} {ms : List Entry} {s t : State} {hs : List Handle}
    (h : admitEntries m ms s = .admitted hs t) : CreditSpent s t := by
  have := spent_admit m ms s; rwa [h] at this
theorem spent_yielded {m : Bool} {ms : List Entry} {s t : State} (h : admitEntries m ms s = .yielded t) : CreditSpent s t := by
  have := spent_admit m ms s; rwa [h] at this

@[simp] theorem base_holdLost (x : Subscription) (k : Pat) (ms : List Entry) (s : State) : base (holdLost x k ms s) = base s := by
  unfold holdLost; (repeat' split) <;> simp
@[simp] theorem credit_holdLost (x : Subscription) (k : Pat) (ms : List Entry) (s : State) : (holdLost x k ms s).credit = s.credit := by
  unfold holdLost; (repeat' split) <;> simp
@[simp] theorem base_tellOccurrenceLost (x : Subscription) (k : Pat) (d : Kind) (f : FrameTime) (r : Reason) (s : State) : base (tellOccurrenceLost x k d f r s) = base s := by
  unfold tellOccurrenceLost; (repeat' split) <;> simp
@[simp] theorem credit_tellOccurrenceLost (x : Subscription) (k : Pat) (d : Kind) (f : FrameTime) (r : Reason) (s : State) : (tellOccurrenceLost x k d f r s).credit = s.credit := by
  unfold tellOccurrenceLost; (repeat' split) <;> simp
@[simp] theorem base_writeListen (x : Subscription) (k : Pat) (f : FN) (hs : List Handle) (s : State) : base (writeListen x k f hs s) = base s := by
  unfold writeListen; (repeat' split) <;> simp
@[simp] theorem credit_writeListen (x : Subscription) (k : Pat) (f : FN) (hs : List Handle) (s : State) : (writeListen x k f hs s).credit = s.credit := by
  unfold writeListen; (repeat' split) <;> simp
@[simp] theorem base_applyStagedPaging (x : Subscription) (s : State) : base (applyStagedPaging x s) = base s := by
  unfold applyStagedPaging; (repeat' split) <;> simp
@[simp] theorem credit_applyStagedPaging (x : Subscription) (s : State) : (applyStagedPaging x s).credit = s.credit := by
  unfold applyStagedPaging; (repeat' split) <;> simp

@[simp] theorem base_offer (x : Subscription) (k : Pat) (f : FN) (ms : List Entry) (s : State) :
    base (offer x k f ms s) = base s := by
  unfold offer; dsimp only; split
  · rename_i h; simp [base_admitted h]
  · simp
  · rename_i h; simp [base_yielded h]

theorem spent_offer (x : Subscription) (k : Pat) (f : FN) (ms : List Entry) (s : State) :
    CreditSpent s (offer x k f ms s) := by
  unfold offer; dsimp only; split
  · rename_i h; exact .after_eq (t := updPattern _ _ _ s) (by simp) ((spent_admitted h).then_eq (by simp))
  · exact .of_eq (by simp)
  · rename_i h; exact .after_eq (t := updPattern _ _ _ s) (by simp) ((spent_yielded h).then_eq (by simp))

@[simp] theorem base_offerCall (x : Subscription) (p : CallPattern) (f : FN) (ms : List Entry) (s : State) : base (offerCall x p f ms s) = base s := by
  unfold offerCall; (repeat' split) <;> simp
theorem spent_offerCall (x : Subscription) (p : CallPattern) (f : FN) (ms : List Entry) (s : State) : CreditSpent s (offerCall x p f ms s) := by
  unfold offerCall
  (repeat' split) <;>
  first
  | exact .of_eq (by simp)
  | exact spent_offer _ _ _ _ _

@[simp] theorem base_materialisePage (x : Subscription) (s : State) : base (materialisePage x s) = base s := by
  unfold materialisePage; dsimp only; (repeat' split) <;> simp
theorem spent_materialisePage (x : Subscription) (s : State) : CreditSpent s (materialisePage x s) := by
  unfold materialisePage; dsimp only; (repeat' split)
  · exact .after_eq (credit_applyStagedPaging x s) (spent_offer _ _ _ _ _)
  · exact .of_eq (by simp)
  · exact .of_eq (by simp)

@[simp] theorem base_materialiseCall (x : Subscription) (s : State) : base (materialiseCall x s) = base s := by
  unfold materialiseCall; (repeat' split) <;> simp
theorem spent_materialiseCall (x : Subscription) (s : State) : CreditSpent s (materialiseCall x s) := by
  unfold materialiseCall
  (repeat' split) <;>
  first
  | exact .of_eq (by simp)
  | exact spent_offer _ _ _ _ _
  | exact spent_offerCall _ _ _ _ _

@[simp] theorem base_materialiseMeas (x : Subscription) (s : State) : base (materialiseMeas x s) = base s := by
  unfold materialiseMeas; (repeat' split) <;> simp
theorem spent_materialiseMeas (x : Subscription) (s : State) : CreditSpent s (materialiseMeas x s) := by
  unfold materialiseMeas
  (repeat' split) <;>
  first
  | exact .of_eq (by simp)
  | exact spent_offer _ _ _ _ _

@[simp] theorem base_materialise (x : Subscription) (k : Pat) (s : State) : base (materialise x k s) = base s := by
  unfold materialise; (repeat' split) <;> simp
theorem spent_materialise (x : Subscription) (k : Pat) (s : State) : CreditSpent s (materialise x k s) := by
  unfold materialise
  (repeat' split) <;>
  first
  | exact .of_eq (by simp)
  | exact spent_offer _ _ _ _ _
  | exact spent_materialisePage _ _
  | exact spent_materialiseCall _ _
  | exact spent_materialiseMeas _ _

@[simp] theorem base_activate (x : Subscription) (k : Pat) (s : State) : base (Machine.activate x k s) = base s := by
  unfold Machine.activate; (repeat' split) <;> simp
theorem spent_activate (x : Subscription) (k : Pat) (s : State) : CreditSpent s (Machine.activate x k s) := by
  unfold Machine.activate
  (repeat' split) <;>
  first
  | exact .of_eq (by simp)
  | exact spent_offer _ _ _ _ _
  | exact .after_eq (t := updPattern _ _ _ s) (by simp) (spent_materialise _ _ _)
@[simp] theorem base_deactivate (x : Subscription) (k : Pat) (s : State) : base (deactivate x k s) = base s := by simp [deactivate, base_forEntries]
@[simp] theorem credit_deactivate (x : Subscription) (k : Pat) (s : State) : (deactivate x k s).credit = s.credit := by simp [deactivate, credit_forEntries]

@[simp] theorem base_rematerialise (x : Subscription) (k : Pat) (f : Option FN) (s : State) :
    base (rematerialise x k f s) = base s := by
  unfold rematerialise; dsimp only; (repeat' split) <;> simp [base_forEntries]
theorem spent_rematerialise (x : Subscription) (k : Pat) (f : Option FN) (s : State) :
    CreditSpent s (rematerialise x k f s) := by
  unfold rematerialise; dsimp only; (repeat' split)
  · exact .of_eq (by simp)
  · exact .after_eq (t := updPattern _ _ _ (letRunOn _ _ (forEntries dropEntry _ s))) (by simp [credit_forEntries])
      (spent_materialise _ _ _)
  · exact .refl s

@[simp] theorem base_materialiseDue (n : Nat) (s : State) : base (materialiseDue n s) = base s := by
  induction n generalizing s with
  | zero => rfl
  | succ n ih => unfold materialiseDue; split <;> simp [ih]
theorem spent_materialiseDue (n : Nat) (s : State) : CreditSpent s (materialiseDue n s) := by
  induction n generalizing s with
  | zero => exact .refl s
  | succ n ih =>
    unfold materialiseDue; split
    · exact (spent_materialise _ _ s).trans (ih _)
    · exact .refl s

@[simp] theorem base_materialiseAll (s : State) : base (materialiseAll s) = base s := base_materialiseDue _ _
theorem spent_materialiseAll (s : State) : CreditSpent s (materialiseAll s) := spent_materialiseDue _ _

/-! ### Operations of the link and the windows -/

@[simp] theorem base_voidSelection (x : Subscription) (s : State) : base (voidSelection x s) = base s := rfl
@[simp] theorem credit_voidSelection (x : Subscription) (s : State) : (voidSelection x s).credit = s.credit := rfl
@[simp] theorem base_tellCandidate (x : Subscription) (b : Bool) (n : Neighbour) (l : Option Int) (s : State) : base (tellCandidate x b n l s) = base s := by
  unfold tellCandidate; (repeat' split) <;> simp
@[simp] theorem credit_tellCandidate (x : Subscription) (b : Bool) (n : Neighbour) (l : Option Int) (s : State) : (tellCandidate x b n l s).credit = s.credit := by
  unfold tellCandidate; (repeat' split) <;> simp
@[simp] theorem base_dropEnded (h : Handle) (s : State) : base (dropEnded h s) = base s := rfl
@[simp] theorem credit_dropEnded (h : Handle) (s : State) : (dropEnded h s).credit = s.credit := rfl
@[simp] theorem base_addEnded (w : EndedWindow) (s : State) : base (addEnded w s) = base s := rfl
@[simp] theorem credit_addEnded (w : EndedWindow) (s : State) : (addEnded w s).credit = s.credit := rfl
@[simp] theorem base_setGap (g : Option GapRun) (s : State) : base (setGap g s) = base s := rfl
@[simp] theorem credit_setGap (g : Option GapRun) (s : State) : (setGap g s).credit = s.credit := rfl
@[simp] theorem base_acked  (s : State) : base (acked s) = base s := rfl
@[simp] theorem credit_acked  (s : State) : (acked s).credit = s.credit := rfl
@[simp] theorem base_faulted  (s : State) : base (faulted s) = base s := rfl
@[simp] theorem credit_faulted  (s : State) : (faulted s).credit = s.credit := rfl
@[simp] theorem base_oweRecovery  (s : State) : base (oweRecovery s) = base s := rfl
@[simp] theorem credit_oweRecovery  (s : State) : (oweRecovery s).credit = s.credit := rfl
@[simp] theorem base_abortRadio (h : Handle) (s : State) : base (abortRadio h s) = base s := by
  unfold abortRadio; (repeat' split) <;> simp
@[simp] theorem credit_abortRadio (h : Handle) (s : State) : (abortRadio h s).credit = s.credit := by
  unfold abortRadio; (repeat' split) <;> simp
@[simp] theorem base_abortDown (e : Entry) (s : State) : base (abortDown e s) = base s := by
  unfold abortDown; (repeat' split) <;> simp
@[simp] theorem credit_abortDown (e : Entry) (s : State) : (abortDown e s).credit = s.credit := by
  unfold abortDown; (repeat' split) <;> simp
@[simp] theorem base_gapReportRead (h : Handle) (s : State) : base (gapReportRead h s) = base s := by
  unfold gapReportRead; (repeat' split) <;> simp
@[simp] theorem credit_gapReportRead (h : Handle) (s : State) : (gapReportRead h s).credit = s.credit := by
  unfold gapReportRead; (repeat' split) <;> simp
@[simp] theorem base_tuneWindow (g : GapRun) (s : State) : base (tuneWindow g s) = base s := by
  unfold tuneWindow; (repeat' split) <;> simp
@[simp] theorem credit_tuneWindow (g : GapRun) (s : State) : (tuneWindow g s).credit = s.credit := by
  unfold tuneWindow; (repeat' split) <;> simp
@[simp] theorem base_openWindow (g : GapRun) (s : State) : base (openWindow g s) = base s := by simp [openWindow]
@[simp] theorem credit_openWindow (g : GapRun) (s : State) : (openWindow g s).credit = s.credit := by simp [openWindow]
@[simp] theorem base_closeWindow (g : GapRun) (s : State) : base (closeWindow g s) = base s := by simp [closeWindow]
@[simp] theorem credit_closeWindow (g : GapRun) (s : State) : (closeWindow g s).credit = s.credit := by simp [closeWindow]
@[simp] theorem base_cancelExecuting (e : Entry) (s : State) : base (cancelExecuting e s) = base s := by simp [cancelExecuting]
@[simp] theorem credit_cancelExecuting (e : Entry) (s : State) : (cancelExecuting e s).credit = s.credit := by simp [cancelExecuting]
@[simp] theorem base_lostEnded (x : Subscription) (k : Pat) (t : LT) (s : State) : base (lostEnded x k t s) = base s := by simp [lostEnded]
@[simp] theorem credit_lostEnded (x : Subscription) (k : Pat) (t : LT) (s : State) : (lostEnded x k t s).credit = s.credit := by simp [lostEnded]
@[simp] theorem base_realign (x : Subscription) (b : Timebase) (s : State) : base (realign x b s) = base s := rfl
@[simp] theorem credit_realign (x : Subscription) (b : Timebase) (s : State) : (realign x b s).credit = s.credit := rfl
@[simp] theorem base_ageResult (x : Subscription) (s : State) : base (ageResult x s) = base s := by simp [ageResult]
@[simp] theorem credit_ageResult (x : Subscription) (s : State) : (ageResult x s).credit = s.credit := by simp [ageResult]
@[simp] theorem base_readDone (e : Entry) (l : Int) (s : State) : base (readDone e l s) = base s := by simp [readDone]
@[simp] theorem credit_readDone (e : Entry) (l : Int) (s : State) : (readDone e l s).credit = s.credit := by simp [readDone]

@[simp] theorem base_offerPageRead (x : Subscription) (r : ListenRecord) (s : State) :
    base (offerPageRead x r s) = base s := by
  unfold offerPageRead; dsimp only; (repeat' split)
  · rename_i h; simp [base_admitted h]
  · rename_i h; exact base_admitted h
  · simp
  · rename_i h; exact base_yielded h
  · simp
  · rfl
theorem spent_offerPageRead (x : Subscription) (r : ListenRecord) (s : State) : CreditSpent s (offerPageRead x r s) := by
  unfold offerPageRead; dsimp only; (repeat' split)
  · rename_i h; exact (spent_admitted h).then_eq (by simp)
  · rename_i h; exact spent_admitted h
  · exact .of_eq (by simp)
  · rename_i h; exact spent_yielded h
  · exact .of_eq (by simp)
  · exact .refl s

@[simp] theorem base_pageFound (x : Subscription) (r : ListenRecord) (d : Decision) (m : Option Int) (s : State) :
    base (pageFound x r d m s) = base s := by
  unfold pageFound; dsimp only; split <;> simp
theorem spent_pageFound (x : Subscription) (r : ListenRecord) (d : Decision) (m : Option Int) (s : State) :
    CreditSpent s (pageFound x r d m s) := by
  unfold pageFound; dsimp only; split
  · exact .after_eq (credit_notify _ _ s) (spent_offerPageRead _ _ _)
  · exact .of_eq (by simp)

@[simp] theorem base_judgeListen (e : Entry) (m : Option Int) (s : State) : base (judgeListen e m s) = base s := by
  unfold judgeListen; dsimp only; (repeat' split) <;> simp
theorem spent_judgeListen (e : Entry) (m : Option Int) (s : State) : CreditSpent s (judgeListen e m s) := by
  unfold judgeListen; dsimp only; (repeat' split)
  · exact .of_eq (by simp)
  · exact .after_eq (credit_dropListen _ _ s) (spent_pageFound _ _ _ _ _)
  · exact .refl s

/-! ### The start and the end of a window -/

@[simp] theorem base_handOn_none (w : EndedWindow) (s : State) : base (handOn w none s) = base s := by
  unfold handOn; dsimp only; (repeat' split) <;> simp
theorem spent_handOn_none (w : EndedWindow) (s : State) : CreditSpent s (handOn w none s) := by
  unfold handOn; dsimp only; split
  · exact .of_eq (by simp)
  · exact (spent_judgeListen w.entry none s).then_eq (by simp)
  all_goals exact .of_eq (by simp)

@[simp] theorem base_selectNeighbours (e : Entry) (g : Nat) (s : State) : base (selectNeighbours e g s) = base s := by
  unfold selectNeighbours; dsimp only
  rw [base_modifyEntry, base_setSelection]
  cases h : e.owner <;> simp [base, queuesBounded, updMsu, PerSub.upd, PerSub.set, PerSub.get, stillAll, Msu.still]
@[simp] theorem credit_selectNeighbours (e : Entry) (g : Nat) (s : State) : (selectNeighbours e g s).credit = s.credit := rfl
@[simp] theorem base_startGap (e : Entry) (s : State) : base (startGap e s) = base s := by
  unfold startGap; dsimp only; split <;> simp
@[simp] theorem credit_startGap (e : Entry) (s : State) : (startGap e s).credit = s.credit := by
  unfold startGap; dsimp only; split <;> simp
@[simp] theorem base_startEntry (e : Entry) (s : State) : base (startEntry e s) = base s := by
  unfold startEntry; dsimp only; split <;> simp
@[simp] theorem credit_startEntry (e : Entry) (s : State) : (startEntry e s).credit = s.credit := by
  unfold startEntry; dsimp only; split <;> simp

@[simp] theorem base_leaveGap (e : Entry) (n : Nat) (s : State) : base (leaveGap e n s) = base s := by
  unfold leaveGap; dsimp only; split <;> simp
theorem spent_leaveGap (e : Entry) (n : Nat) (s : State) : CreditSpent s (leaveGap e n s) := by
  unfold leaveGap; dsimp only; split
  · exact .after_eq (credit_removeEntry _ s) (spent_handOn_none _ _)
  · exact .of_eq (by simp)
@[simp] theorem base_endGap (e : Entry) (s : State) : base (endGap e s) = base s := by
  unfold endGap; dsimp only; (repeat' split) <;> simp
theorem spent_endGap (e : Entry) (s : State) : CreditSpent s (endGap e s) := by
  unfold endGap; dsimp only; (repeat' split)
  all_goals exact .after_eq (by simp) (spent_leaveGap _ _ _)
@[simp] theorem base_endEntry (e : Entry) (s : State) : base (endEntry e s) = base s := by
  unfold endEntry; split <;> simp
theorem spent_endEntry (e : Entry) (s : State) : CreditSpent s (endEntry e s) := by
  unfold endEntry; split
  · exact spent_endGap e s
  · exact .of_eq (by simp)

@[simp] theorem base_endReached (h : Handle) (s : State) : base (endReached h s) = base s := by
  unfold endReached; (repeat' split) <;> simp
theorem spent_endReached (h : Handle) (s : State) : CreditSpent s (endReached h s) := by
  unfold endReached; (repeat' split)
  · exact spent_endEntry _ s
  all_goals exact .refl s
@[simp] theorem base_endPrevious (s : State) : base (endPrevious s) = base s := by
  unfold endPrevious; split <;> simp
theorem spent_endPrevious (s : State) : CreditSpent s (endPrevious s) := by
  unfold endPrevious; split
  · exact spent_endEntry _ s
  · exact .refl s
@[simp] theorem base_startReached (h : Handle) (s : State) : base (startReached h s) = base s := by
  unfold startReached; dsimp only; (repeat' split) <;> simp
theorem spent_startReached (h : Handle) (s : State) : CreditSpent s (startReached h s) := by
  unfold startReached; dsimp only; (repeat' split)
  · exact (spent_endPrevious s).trans (.after_eq (credit_startEntry _ _) (spent_endReached _ _))
  · exact spent_endPrevious s
  · exact .refl s

/-! ### What follows every event -/

@[simp] theorem base_prepare (e : Entry) (s : State) : base (prepare e s) = base s := by
  unfold prepare; (repeat' split) <;> simp
@[simp] theorem credit_prepare (e : Entry) (s : State) : (prepare e s).credit = s.credit := by
  unfold prepare; (repeat' split) <;> simp

@[simp] theorem base_prepareLoop (n : Nat) (s : State) : base (prepareLoop n s) = base s := by
  induction n generalizing s with
  | zero => rfl
  | succ n ih => unfold prepareLoop; split <;> simp [ih]
theorem spent_prepareLoop (n : Nat) (s : State) : CreditSpent s (prepareLoop n s) := by
  induction n generalizing s with
  | zero => exact .refl s
  | succ n ih =>
    unfold prepareLoop; split
    · exact (CreditSpent.after_eq (credit_prepare _ s)
        ((spent_startReached _ _).trans (spent_materialiseAll _))).trans (ih _)
    · exact .refl s

@[simp] theorem base_choosePower  (s : State) : base (choosePower s) = base s := by
  unfold choosePower; (repeat' split) <;> simp
@[simp] theorem credit_choosePower  (s : State) : (choosePower s).credit = s.credit := by
  unfold choosePower; (repeat' split) <;> simp
@[simp] theorem base_wakeUp  (s : State) : base (wakeUp s) = base s := by
  unfold wakeUp; (repeat' split) <;> simp
@[simp] theorem credit_wakeUp  (s : State) : (wakeUp s).credit = s.credit := by
  unfold wakeUp; (repeat' split) <;> simp
@[simp] theorem base_refreshWake  (s : State) : base (refreshWake s) = base s := by
  unfold refreshWake; (repeat' split) <;> simp
@[simp] theorem credit_refreshWake  (s : State) : (refreshWake s).credit = s.credit := by
  unfold refreshWake; (repeat' split) <;> simp
@[simp] theorem base_send (c : Cmd) (s : State) : base (send c s) = base s := rfl
@[simp] theorem credit_send (c : Cmd) (s : State) : (send c s).credit = s.credit := rfl
@[simp] theorem base_answerSlumber  (s : State) : base (answerSlumber s) = base s := rfl
@[simp] theorem credit_answerSlumber  (s : State) : (answerSlumber s).credit = s.credit := rfl

@[simp] theorem base_dispatchLoop (n : Nat) (s : State) : base (dispatchLoop n s) = base s := by
  induction n generalizing s with
  | zero => rfl
  | succ n ih => unfold dispatchLoop; dsimp only; (repeat' split) <;> simp [ih]
@[simp] theorem credit_dispatchLoop (n : Nat) (s : State) : (dispatchLoop n s).credit = s.credit := by
  induction n generalizing s with
  | zero => rfl
  | succ n ih => unfold dispatchLoop; dsimp only; (repeat' split) <;> simp [ih]

@[simp] theorem base_dispatch  (s : State) : base (dispatch s) = base s := by
  unfold dispatch; (repeat' split) <;> simp
@[simp] theorem credit_dispatch  (s : State) : (dispatch s).credit = s.credit := by
  unfold dispatch; (repeat' split) <;> simp

/-- What follows an event leaves every block of `base` as it was. -/
@[simp] theorem base_settle (s : State) : base (settle s) = base s := by simp [settle]
/-- What follows an event spends credit at most. -/
theorem spent_settle (s : State) : CreditSpent s (settle s) := by
  unfold settle
  exact (((spent_materialiseAll s).then_eq (u := choosePower (guardTest (materialiseAll s))) (by simp)).trans
    (spent_prepareLoop 48 _)).then_eq (by simp)

/-! ### After `settle` -/

@[simp] theorem settle_phase (s : State) : (settle s).phase = s.phase := phase_of_base (base_settle s)
@[simp] theorem settle_tbu (s : State) : (settle s).tbu = s.tbu := tbu_of_base (base_settle s)
@[simp] theorem settle_cxm (s : State) : (settle s).cxm = s.cxm := cxm_of_base (base_settle s)
@[simp] theorem settle_air (s : State) : (settle s).air = s.air := air_of_base (base_settle s)
@[simp] theorem settle_ceu (s : State) : (settle s).ceu = s.ceu := ceu_of_base (base_settle s)
theorem settle_msu (s : State) : stillAll (settle s).msu = stillAll s.msu := msu_of_base (base_settle s)
@[simp] theorem settle_hou (s : State) : (settle s).hou = s.hou := hou_of_base (base_settle s)
@[simp] theorem settle_csc (s : State) : (settle s).csc = s.csc := csc_of_base (base_settle s)
@[simp] theorem settle_engines (s : State) : (settle s).engines = s.engines := engines_of_base (base_settle s)
@[simp] theorem settle_pins (s : State) : (settle s).pins = s.pins := pins_of_base (base_settle s)
@[simp] theorem settle_votes (s : State) : (settle s).votes = s.votes := votes_of_base (base_settle s)
@[simp] theorem settle_free (s : State) : (settle s).free = s.free := free_of_base (base_settle s)
@[simp] theorem settle_pending (s : State) : (settle s).pending = s.pending := pending_of_base (base_settle s)

/-! ### Slews -/

@[simp] theorem base_raiseGens (es : List Entry) (s : State) : base (raiseGens es s) = base s := by
  induction es generalizing s with
  | nil => rfl
  | cons e es ih => rw [raiseGens, ih, base_raiseGen]
@[simp] theorem credit_raiseGens (es : List Entry) (s : State) : (raiseGens es s).credit = s.credit := by
  induction es generalizing s with
  | nil => rfl
  | cons e es ih => rw [raiseGens, ih, credit_raiseGen]

@[simp] theorem base_slewLost (ms : List Entry) (k : Kind) (s : State) : base (slewLost ms k s) = base s := by
  unfold slewLost; dsimp only; (repeat' split) <;> simp
@[simp] theorem credit_slewLost (ms : List Entry) (k : Kind) (s : State) : (slewLost ms k s).credit = s.credit := by
  unfold slewLost; dsimp only; (repeat' split) <;> simp

@[simp] theorem base_reoffer (ms : List Entry) (s : State) : base (reoffer ms s) = base s := by
  unfold reoffer; split
  · rename_i h; exact base_admitted h
  · simp
  · rename_i h; split
    · rw [base_holdLost, base_raiseGens]; exact base_yielded h
    · exact base_yielded h
theorem spent_reoffer (ms : List Entry) (s : State) : CreditSpent s (reoffer ms s) := by
  unfold reoffer; split
  · rename_i h; exact spent_admitted h
  · exact .of_eq (by simp)
  · rename_i h; split
    · exact (spent_yielded h).then_eq (by simp)
    · exact spent_yielded h

@[simp] theorem base_reofferAll (gs : List (List Entry)) (s : State) : base (reofferAll gs s) = base s := by
  induction gs generalizing s with
  | nil => rfl
  | cons g gs ih => rw [reofferAll, ih, base_reoffer]
theorem spent_reofferAll (gs : List (List Entry)) (s : State) : CreditSpent s (reofferAll gs s) := by
  induction gs generalizing s with
  | nil => exact .refl s
  | cons g gs ih => exact (spent_reoffer g s).trans (ih _)

@[simp] theorem base_applySlew (x : Subscription) (d : Int) (s : State) : base (applySlew x d s) = base s := by
  unfold applySlew; rw [base_reofferAll]; rfl
theorem spent_applySlew (x : Subscription) (d : Int) (s : State) : CreditSpent s (applySlew x d s) :=
  CreditSpent.after_eq (t := { s with plan := _, patterns := _ }) rfl (spent_reofferAll _ _)

@[simp] theorem base_bringSlew (x : Subscription) (d : Option Int) (s : State) : base (bringSlew x d s) = base s := by
  unfold bringSlew; split <;> simp
theorem spent_bringSlew (x : Subscription) (d : Option Int) (s : State) : CreditSpent s (bringSlew x d s) := by
  unfold bringSlew; split
  · exact spent_applySlew _ _ _
  · exact .refl s

/-! ### The choice of a command -/

/-- `pickCmd` answers nothing just where no waiting command may be sent. -/
theorem pickCmd_none {r : Rsq} {l : List Cmd} : pickCmd r l = none ↔ ∀ c ∈ l, sendable r c = false := by
  induction l with
  | nil => simp [pickCmd]
  | cons x l ih => cases h : pickCmd r l <;> cases q : sendable r x <;> simp_all [pickCmd]

/-- All that `pickCmd` can answer (R69, log 46): a waiting command that may be sent, before which stands none that may be sent of
its own place or an earlier one, and after which none of an earlier one. -/
theorem pickCmd_some {r : Rsq} {l : List Cmd} {c : Cmd} (h : pickCmd r l = some c) :
    sendable r c = true ∧ ∃ before after, l = before ++ c :: after ∧
      (∀ d ∈ before, sendable r d = true → c.rank < d.rank) ∧ (∀ d ∈ after, sendable r d = true → c.rank ≤ d.rank) := by
  induction l generalizing c with
  | nil => cases h
  | cons x l ih =>
    cases hp : pickCmd r l with
    | none =>
      cases q : sendable r x <;> simp [pickCmd, hp, q] at h
      subst h
      exact ⟨q, [], l, rfl, by simp, fun d hd hs => by simp [pickCmd_none.1 hp d hd] at hs⟩
    | some d =>
      obtain ⟨hd, b, a, rfl, hb, ha⟩ := ih hp
      cases q : sendable r x <;> simp only [pickCmd, hp, q] at h
      · cases h
        exact ⟨hd, x :: b, a, rfl, fun e he hs => by
          rcases List.mem_cons.1 he with rfl | he
          · simp [q] at hs
          · exact hb e he hs, ha⟩
      · by_cases hr : d.rank < x.rank <;> simp [hr] at h <;> subst h
        · exact ⟨hd, x :: b, a, rfl, fun e he hs => by
            rcases List.mem_cons.1 he with rfl | he
            · exact hr
            · exact hb e he hs, ha⟩
        · refine ⟨q, [], b ++ d :: a, rfl, by simp, fun e he hs => ?_⟩
          have hx : x.rank ≤ d.rank := by omega
          rcases List.mem_append.1 he with he | he
          · exact hx.trans (hb e he hs).le
          · rcases List.mem_cons.1 he with rfl | he
            · exact hx
            · exact hx.trans (ha e he hs)

end Sys2Proof.Machine
end

