-- ==== Sys2Proof/Laws/Control.lean ====
section
/-! SUPPORT. What the laws of the contexts read of a state (`Ctl`), and the operations on windows, reports, link and
timebases that leave it alone. -/

namespace Sys2Proof.Machine

/-- What `contextsOk`, `creditOk` (but for the credit) and `queuesBounded` read: the contexts but for their filtered levels, the timebases, the claim, credit_max, the
exchange and lease settings, the handover phases, the pending reselections, the bound of the queues. -/
structure Ctl where
  ctx : PerSub Context
  record : PerSub (Option Timebase)
  fallback : Option (Subscription × Timebase)
  claim : Option Subscription
  air : AirSettings
  timer : PerSub Bool
  lease : PerSub Bool
  phase : PerSub (Option HoPhase)
  reselect : PerSub Bool
  bounded : Bool

def dropLevel (c : Context) : Context := { c with level := none }

def Base.ctl (b : Base) : Ctl :=
  { ctx := ⟨dropLevel b.cxm.a, dropLevel b.cxm.b⟩, record := b.tbu.record, fallback := b.tbu.fallback,
    claim := b.ceu.claim, air := b.air, timer := ⟨b.ceu.items.a.timer.isSome, b.ceu.items.b.timer.isSome⟩,
    lease := ⟨b.ceu.items.a.lease.isSome, b.ceu.items.b.lease.isSome⟩,
    phase := ⟨b.hou.a.record.map (·.phase), b.hou.b.record.map (·.phase)⟩,
    reselect := ⟨b.hou.a.reselect.isSome, b.hou.b.reselect.isSome⟩, bounded := b.bounded }

/-- What the laws read of one subscription. -/
structure Side where
  ctx : Context
  record : Option Timebase
  fallback : Bool
  claim : Bool
  timer : Bool
  lease : Bool
  phase : Option HoPhase
  reselect : Bool

def Ctl.side (k : Ctl) (x : Subscription) : Side :=
  { ctx := k.ctx.get x, record := k.record.get x, fallback := k.fallback.map (·.1) == some x,
    claim := k.claim == some x, timer := k.timer.get x, lease := k.lease.get x, phase := k.phase.get x,
    reselect := k.reselect.get x }

def side (x : Subscription) (s : State) : Side := (base s).ctl.side x

theorem side_eq (x : Subscription) (s : State) : side x s =
    { ctx := dropLevel (s.cxm.get x), record := s.tbu.record.get x, fallback := s.tbu.fallback.map (·.1) == some x,
      claim := s.ceu.claim == some x, timer := (s.ceu.items.get x).timer.isSome,
      lease := (s.ceu.items.get x).lease.isSome, phase := (s.hou.get x).record.map (·.phase),
      reselect := (s.hou.get x).reselect.isSome } := by
  cases x <;> rfl

/-- `contextOk` from what it reads. -/
def Side.ok (d : Side) : Bool :=
  let c := d.ctx
  (c.prior.isSome == decide (c.state = .handover)) &&
  (c.purpose.isSome == decide (c.state = .exchange ∨ (c.state = .handover ∧ c.prior = some .exchange))) &&
  (c.exchangeDeadline.isSome == decide (c.state = .exchange)) &&
  (c.leaseDeadline.isSome == decide (c.state = .call ∨ (c.state = .handover ∧ c.prior = some .call))) &&
  (c.serving.isSome == decide (c.state ≠ .absent ∧ c.state ≠ .searching)) &&
  (d.claim == decide (c.state = .call ∨ (c.state = .handover ∧ c.prior = some .call))) &&
  (d.record.isSome == decide (c.state ≠ .absent ∧ c.state ≠ .searching)) &&
  slewOk d.record &&
  (d.phase.isSome == decide (c.state = .handover)) &&
  (d.fallback == (d.phase == some .switched)) &&
  (!d.reselect || decide (c.state = .camped)) &&
  (d.timer == decide (c.state = .exchange ∨ (c.state = .handover ∧ c.prior = some .exchange))) &&
  (d.lease == decide (c.state = .call ∨ (c.state = .handover ∧ c.prior = some .call)))

theorem hasCell_eq (c : Context) : hasCell c = decide (c.state ≠ .absent ∧ c.state ≠ .searching) := by
  unfold hasCell onCell; cases c.state <;> rfl
theorem inCall_eq (c : Context) :
    inCall c = decide (c.state = .call ∨ (c.state = .handover ∧ c.prior = some .call)) := by
  unfold inCall; cases c.state <;> cases c.prior <;> first | rfl | (rename_i p; cases p <;> rfl)
theorem inExchange_eq (c : Context) :
    inExchange c = decide (c.state = .exchange ∨ (c.state = .handover ∧ c.prior = some .exchange)) := by
  unfold inExchange; cases c.state <;> cases c.prior <;> first | rfl | (rename_i p; cases p <;> rfl)
theorem eq_bool {α : Type} [DecidableEq α] (a b : α) : (a == b) = decide (a = b) := by
  by_cases h : a = b <;> simp [h]

theorem contextOk_eq (x : Subscription) (s : State) : contextOk x s = (side x s).ok := by
  simp only [contextOk, Side.ok, hasCell_eq, inCall_eq, inExchange_eq]
  cases x <;> simp [side, Ctl.side, Base.ctl, base, PerSub.get, dropLevel, eq_bool] <;> rfl

theorem contextsOk_iff (s : State) : contextsOk s = true ↔
    (∀ x, (side x s).ok = true) ∧ ∀ x, (side x s).ctx.state = .handover → (side x.other s).ctx.state ≠ .handover := by
  simp only [contextsOk, contextOk_eq, Bool.and_eq_true]
  constructor
  · rintro ⟨⟨ha, hb⟩, hn⟩
    refine ⟨fun x => by cases x; exact ha; exact hb, fun x hx hy => ?_⟩
    cases x <;> simp_all [side, Ctl.side, Base.ctl, base, PerSub.get, dropLevel, Subscription.other]
  · rintro ⟨h1, h2⟩
    refine ⟨⟨h1 .A, h1 .B⟩, ?_⟩
    have h3 : s.cxm.a.state = .handover → s.cxm.b.state ≠ .handover := h2 .A
    by_cases ha : s.cxm.a.state = .handover
    · simp [ha, h3 ha]
    · simp [ha]

theorem bounded_eq (s : State) : queuesBounded s = (base s).ctl.bounded := rfl

theorem side_of_ctl {s t : State} (h : (base t).ctl = (base s).ctl) (x : Subscription) : side x t = side x s := by
  unfold side; rw [h]

theorem contextsOk_of_ctl {s t : State} (h : (base t).ctl = (base s).ctl) : contextsOk t = contextsOk s := by
  rw [Bool.eq_iff_iff, contextsOk_iff, contextsOk_iff]; simp only [side_of_ctl h]

/-- A change on the side of x alone keeps the laws of both contexts if it keeps those of x. -/
theorem contextsOk_change {x : Subscription} {s t : State} (h : contextsOk s = true)
    (ho : side x.other t = side x.other s) (hx : (side x t).ok = true)
    (hn : (side x t).ctx.state = .handover → (side x.other s).ctx.state ≠ .handover) : contextsOk t = true := by
  rw [contextsOk_iff] at h ⊢
  constructor
  · intro y
    have h1 := h.1 x.other
    cases x <;> cases y <;> simp_all [Subscription.other]
  · intro y hy
    cases x <;> cases y <;> simp_all [Subscription.other]

/-! ### Operations that leave it alone -/

@[simp] theorem ctl_servingSample (x : Subscription) (ch : Nat) (l : Int) (s : State) :
    (base (servingSample x ch l s)).ctl = (base s).ctl := by
  unfold servingSample; (repeat' split) <;> first | rfl | (cases x <;> rfl)
@[simp] theorem ctl_updMsu (x : Subscription) (f : Msu → Msu) (s : State) :
    (base (updMsu x f s)).ctl = (base s).ctl := rfl
@[simp] theorem ctl_updCsc (f : Csc → Csc) (s : State) : (base (updCsc f s)).ctl = (base s).ctl := rfl
@[simp] theorem ctl_bankSwitch (x : Subscription) (s : State) : (base (bankSwitch x s)).ctl = (base s).ctl := by
  unfold bankSwitch; dsimp only; split <;> simp
@[simp] theorem ctl_writeReport (x : Subscription) (r : ReportRecord) (s : State) :
    (base (writeReport x r s)).ctl = (base s).ctl := rfl
@[simp] theorem ctl_setNeighbour (x : Subscription) (i : Nat) (n : Neighbour) (s : State) :
    (base (setNeighbour x i n s)).ctl = (base s).ctl := rfl
@[simp] theorem ctl_neighbourResult (x : Subscription) (h : Handle) (i : Nat) (v : Int) (s : State) :
    (base (neighbourResult x h i v s)).ctl = (base s).ctl := by
  unfold neighbourResult; dsimp only; (repeat' split) <;> simp
@[simp] theorem ctl_levelOnly (x : Subscription) (l : Context → Option Int) (s : State) :
    (base (updCtx x (fun c => { c with level := l c }) s)).ctl = (base s).ctl := by
  cases x <;> rfl
@[simp] theorem ctl_swapRing (x : Subscription) (t c : Nat) (o : Int) (k : Cell) (l : Option Int) (s : State) :
    (base (swapRing x t c o k l s)).ctl = (base s).ctl := by
  unfold swapRing; dsimp only; (repeat' split) <;> simp
@[simp] theorem ctl_handOn (w : EndedWindow) (rep : Option (Int × Int)) (s : State) :
    (base (handOn w rep s)).ctl = (base s).ctl := by
  unfold handOn; dsimp only; (repeat' split) <;> simp
@[simp] theorem ctl_failEnded (w : EndedWindow) (s : State) : (base (failEnded w s)).ctl = (base s).ctl := by
  unfold failEnded; (repeat' split) <;> simp
theorem ctl_forWindows {f : EndedWindow → State → State} (hf : ∀ w s, (base (f w s)).ctl = (base s).ctl)
    (ws : List EndedWindow) (s : State) : (base (forWindows f ws s)).ctl = (base s).ctl := by
  induction ws generalizing s with
  | nil => rfl
  | cons w ws ih => rw [forWindows, ih, hf]
@[simp] theorem ctl_endedReportRead (w : EndedWindow) (s : State) :
    (base (endedReportRead w s)).ctl = (base s).ctl := by
  unfold endedReportRead; split <;> simp
@[simp] theorem ctl_gapConcluded (h : Handle) (s : State) : (base (gapConcluded h s)).ctl = (base s).ctl := by
  unfold gapConcluded; split <;> simp
@[simp] theorem ctl_offAcked (t : Target) (s : State) : (base (offAcked t s)).ctl = (base s).ctl := by
  unfold offAcked; (repeat' split) <;> simp
@[simp] theorem ctl_commandAcked (c : Cmd) (s : State) : (base (commandAcked c s)).ctl = (base s).ctl := by
  unfold commandAcked; (repeat' split) <;> simp
@[simp] theorem ctl_reportRead (t : Target) (l m : Int) (s : State) :
    (base (reportRead t l m s)).ctl = (base s).ctl := by
  unfold reportRead; dsimp only; (repeat' split) <;> simp
@[simp] theorem ctl_closeEnded (h : Handle) (s : State) : (base (closeEnded h s)).ctl = (base s).ctl := by
  unfold closeEnded; split <;> simp
@[simp] theorem ctl_abortGap (h : Handle) (s : State) : (base (abortGap h s)).ctl = (base s).ctl := by
  unfold abortGap; split <;> simp
@[simp] theorem ctl_cutGap (h : Handle) (s : State) : (base (cutGap h s)).ctl = (base s).ctl := by
  unfold cutGap; split <;> simp
@[simp] theorem ctl_offFaulted (h : Handle) (s : State) : (base (offFaulted h s)).ctl = (base s).ctl := by
  unfold offFaulted; (repeat' split) <;> simp
@[simp] theorem ctl_treatFault (c : Cmd) (s : State) : (base (treatFault c s)).ctl = (base s).ctl := by
  unfold treatFault; (repeat' split) <;> simp
@[simp] theorem ctl_radioDown (k : CmdKind) (s : State) : (base (radioDown k s)).ctl = (base s).ctl := by
  simp [radioDown, ctl_forWindows, base_forEntries]
@[simp] theorem ctl_delivered (v : Bool) (s : State) :
    (base (updTbu (fun b => { b with delivered := v }) s)).ctl = (base s).ctl := rfl
@[simp] theorem ctl_refTrim (v : BitVec 13) (s : State) :
    (base (updTbu (fun b => { b with refTrim := v }) s)).ctl = (base s).ctl := rfl
@[simp] theorem base_linkUp (s : State) : base (linkUp s) = base s := rfl
@[simp] theorem ctl_radioUp (s : State) : (base (radioUp s)).ctl = (base s).ctl := by simp [radioUp]
@[simp] theorem ctl_setResume (x : Subscription) (f : Option FN) (s : State) :
    (base (setResume x f s)).ctl = (base s).ctl := by
  cases x <;> rfl
@[simp] theorem ctl_activateStagedCall (x : Subscription) (fn : FN) (s : State) :
    (base (activateStagedCall x fn s)).ctl = (base s).ctl := by
  unfold activateStagedCall; dsimp only; (repeat' split) <;> simp <;> (cases x <;> rfl)
@[simp] theorem ctl_countRefill (x : Subscription) (s : State) : (base (countRefill x s)).ctl = (base s).ctl := by
  unfold countRefill; split <;> rfl
@[simp] theorem ctl_reachResume (x : Subscription) (fn : FN) (s : State) :
    (base (reachResume x fn s)).ctl = (base s).ctl := by
  unfold reachResume; split <;> simp
@[simp] theorem ctl_signalFrame (x : Subscription) (s : State) : (base (signalFrame x s)).ctl = (base s).ctl := by
  unfold signalFrame; split <;> simp
@[simp] theorem ctl_setAside (x : Subscription) (r : HandoverRecord) (s : State) :
    (base (setAside x r s).2).ctl = (base s).ctl := by
  unfold setAside; dsimp only; split <;> simp
@[simp] theorem ctl_returnHeld (x : Subscription) (p : Option (Neighbour × Nat)) (s : State) :
    (base (returnHeld x p s)).ctl = (base s).ctl := by
  unfold returnHeld; split <;> simp
@[simp] theorem ctl_dropSync (x : Subscription) (r : HandoverRecord) (s : State) :
    (base (dropSync x r s)).ctl = (base s).ctl := by
  unfold dropSync; split <;> simp
@[simp] theorem ctl_resumePatterns (x : Subscription) (s : State) :
    (base (resumePatterns x s)).ctl = (base s).ctl := by
  unfold resumePatterns; dsimp only; split <;> simp

/-- The report banks of both subscriptions. -/
def Base.banks (b : Base) : (Bank × Bank) × (Bank × Bank) :=
  ((b.msu.a.bank0, b.msu.a.bank1), (b.msu.b.bank0, b.msu.b.bank1))

/-! ### Operations that leave the report banks alone -/

@[simp] theorem banks_updMsu (x : Subscription) (a : Msu → Option MeasConfig) (b : Msu → MeasSettings)
    (c : Msu → List Neighbour) (d e : Msu → Nat) (s : State) :
    (base (updMsu x (fun m => { config := a m, settings := b m, ring := c m, pointer := d m, round := e m,
                                bank0 := m.bank0, bank1 := m.bank1 }) s)).banks = (base s).banks := by
  cases x <;> rfl
@[simp] theorem banks_servingSample (x : Subscription) (ch : Nat) (l : Int) (s : State) :
    (base (servingSample x ch l s)).banks = (base s).banks := by
  unfold servingSample; (repeat' split) <;> rfl
@[simp] theorem banks_updCsc (f : Csc → Csc) (s : State) : (base (updCsc f s)).banks = (base s).banks := rfl
@[simp] theorem banks_setNeighbour (x : Subscription) (i : Nat) (n : Neighbour) (s : State) :
    (base (setNeighbour x i n s)).banks = (base s).banks := by
  simp [setNeighbour]
@[simp] theorem banks_levelOnly (x : Subscription) (l : Context → Option Int) (s : State) :
    (base (updCtx x (fun c => { c with level := l c }) s)).banks = (base s).banks := by
  cases x <;> rfl
@[simp] theorem banks_swapRing (x : Subscription) (t c : Nat) (o : Int) (k : Cell) (l : Option Int) (s : State) :
    (base (swapRing x t c o k l s)).banks = (base s).banks := by
  unfold swapRing; dsimp only; (repeat' split) <;> simp
@[simp] theorem banks_handOn (w : EndedWindow) (rep : Option (Int × Int)) (s : State) :
    (base (handOn w rep s)).banks = (base s).banks := by
  unfold handOn; dsimp only; (repeat' split) <;> simp
@[simp] theorem banks_failEnded (w : EndedWindow) (s : State) : (base (failEnded w s)).banks = (base s).banks := by
  unfold failEnded; (repeat' split) <;> simp
theorem banks_forWindows {f : EndedWindow → State → State} (hf : ∀ w s, (base (f w s)).banks = (base s).banks)
    (ws : List EndedWindow) (s : State) : (base (forWindows f ws s)).banks = (base s).banks := by
  induction ws generalizing s with
  | nil => rfl
  | cons w ws ih => rw [forWindows, ih, hf]
@[simp] theorem banks_endedReportRead (w : EndedWindow) (s : State) :
    (base (endedReportRead w s)).banks = (base s).banks := by
  unfold endedReportRead; split <;> simp
@[simp] theorem banks_gapConcluded (h : Handle) (s : State) : (base (gapConcluded h s)).banks = (base s).banks := by
  unfold gapConcluded; split <;> simp
@[simp] theorem banks_offAcked (t : Target) (s : State) : (base (offAcked t s)).banks = (base s).banks := by
  unfold offAcked; (repeat' split) <;> simp
@[simp] theorem banks_commandAcked (c : Cmd) (s : State) : (base (commandAcked c s)).banks = (base s).banks := by
  unfold commandAcked; (repeat' split) <;> simp
@[simp] theorem banks_closeEnded (h : Handle) (s : State) : (base (closeEnded h s)).banks = (base s).banks := by
  unfold closeEnded; split <;> simp
@[simp] theorem banks_abortGap (h : Handle) (s : State) : (base (abortGap h s)).banks = (base s).banks := by
  unfold abortGap; split <;> simp
@[simp] theorem banks_cutGap (h : Handle) (s : State) : (base (cutGap h s)).banks = (base s).banks := by
  unfold cutGap; split <;> simp
@[simp] theorem banks_offFaulted (h : Handle) (s : State) : (base (offFaulted h s)).banks = (base s).banks := by
  unfold offFaulted; (repeat' split) <;> simp
@[simp] theorem banks_treatFault (c : Cmd) (s : State) : (base (treatFault c s)).banks = (base s).banks := by
  unfold treatFault; (repeat' split) <;> simp
@[simp] theorem banks_radioDown (k : CmdKind) (s : State) : (base (radioDown k s)).banks = (base s).banks := by
  simp [radioDown, banks_forWindows, base_forEntries]
@[simp] theorem banks_delivered (v : Bool) (s : State) :
    (base (updTbu (fun b => { b with delivered := v }) s)).banks = (base s).banks := rfl
@[simp] theorem banks_refTrim (v : BitVec 13) (s : State) :
    (base (updTbu (fun b => { b with refTrim := v }) s)).banks = (base s).banks := rfl
@[simp] theorem banks_radioUp (s : State) : (base (radioUp s)).banks = (base s).banks := by simp [radioUp]
@[simp] theorem banks_setResume (x : Subscription) (f : Option FN) (s : State) :
    (base (setResume x f s)).banks = (base s).banks := by
  cases x <;> rfl
@[simp] theorem banks_activateStagedCall (x : Subscription) (fn : FN) (s : State) :
    (base (activateStagedCall x fn s)).banks = (base s).banks := by
  unfold activateStagedCall; dsimp only; (repeat' split) <;> simp <;> (cases x <;> rfl)
@[simp] theorem banks_countRefill (x : Subscription) (s : State) : (base (countRefill x s)).banks = (base s).banks := by
  unfold countRefill; split <;> rfl
@[simp] theorem banks_reachResume (x : Subscription) (fn : FN) (s : State) :
    (base (reachResume x fn s)).banks = (base s).banks := by
  unfold reachResume; split <;> simp
@[simp] theorem banks_signalFrame (x : Subscription) (s : State) : (base (signalFrame x s)).banks = (base s).banks := by
  unfold signalFrame; split <;> simp
@[simp] theorem banks_setAside (x : Subscription) (r : HandoverRecord) (s : State) :
    (base (setAside x r s).2).banks = (base s).banks := by
  unfold setAside; dsimp only; split <;> simp
@[simp] theorem banks_returnHeld (x : Subscription) (p : Option (Neighbour × Nat)) (s : State) :
    (base (returnHeld x p s)).banks = (base s).banks := by
  unfold returnHeld; split <;> simp
@[simp] theorem banks_dropSync (x : Subscription) (r : HandoverRecord) (s : State) :
    (base (dropSync x r s)).banks = (base s).banks := by
  unfold dropSync; split <;> simp
@[simp] theorem banks_resumePatterns (x : Subscription) (s : State) :
    (base (resumePatterns x s)).banks = (base s).banks := by
  unfold resumePatterns; dsimp only; split <;> simp


/-! ### Operations that keep the bank law -/

theorem allBanksOk_of_banks {s t : State} (h : (base t).banks = (base s).banks) : allBanksOk t = allBanksOk s := by
  simp only [Base.banks, base, stillAll, Msu.still, Prod.mk.injEq] at h
  obtain ⟨⟨h1, h2⟩, h3, h4⟩ := h
  simp [allBanksOk, banksOk, h1, h2, h3, h4]

/-- An update of one subscription's measurement state that keeps its bank law. -/
theorem allBanksOk_updMsu {x : Subscription} {f : Msu → Msu} {s : State} (h : allBanksOk s = true)
    (hf : ∀ m, banksOk m = true → banksOk (f m) = true) : allBanksOk (updMsu x f s) = true := by
  simp only [allBanksOk, Bool.and_eq_true] at h ⊢
  cases x
  · exact ⟨hf _ h.1, h.2⟩
  · exact ⟨h.1, hf _ h.2⟩

theorem banksOk_of_get {s : State} (h : allBanksOk s = true) (x : Subscription) : banksOk (s.msu.get x) = true := by
  simp only [allBanksOk, Bool.and_eq_true] at h
  cases x
  · exact h.1
  · exact h.2

theorem bankWrite_state (r : ReportRecord) (b : Bank) : (bankWrite r b).state = b.state := by
  unfold bankWrite; split <;> rfl
theorem bankWrite_length (r : ReportRecord) (b : Bank) (h : b.records.length ≤ 8) :
    (bankWrite r b).records.length ≤ 8 := by
  unfold bankWrite; split
  · rename_i k; simp only [List.length_append, List.length_singleton]; exact k
  · exact h

theorem banksOk_write (r : ReportRecord) (m : Msu) (h : banksOk m = true) :
    banksOk (setBank (fillingBank m) (bankWrite r (bankOf m (fillingBank m))) m) = true := by
  simp only [banksOk, Bool.and_eq_true, decide_eq_true_eq] at h ⊢
  obtain ⟨⟨h1, h2⟩, h3⟩ := h
  unfold fillingBank
  split
  · exact ⟨⟨by simpa [setBank, bankOf, bankWrite_state] using h1, bankWrite_length r _ h2⟩, h3⟩
  · exact ⟨⟨by simpa [setBank, bankOf, bankWrite_state] using h1, h2⟩, bankWrite_length r _ h3⟩

theorem allBanksOk_writeReport (x : Subscription) (r : ReportRecord) (s : State) (h : allBanksOk s = true) :
    allBanksOk (writeReport x r s) = true := allBanksOk_updMsu h (banksOk_write r)

theorem banksOk_switch (m n : Msu) (h : banksOk m = true) (h0 : n.bank0 = m.bank0) (h1 : n.bank1 = m.bank1) :
    banksOk (setBank (1 - fillingBank m) { bankOf n (1 - fillingBank m) with state := .filling }
      (setBank (fillingBank m) { bankOf n (fillingBank m) with state := .ready } n)) = true := by
  simp only [banksOk, Bool.and_eq_true, decide_eq_true_eq] at h ⊢
  obtain ⟨⟨_, h2⟩, h3⟩ := h
  unfold fillingBank
  split <;> simp [setBank, bankOf, h0, h1, h2, h3]

theorem allBanksOk_keep {s t : State} (h : (base t).banks = (base s).banks) (k : allBanksOk s = true) :
    allBanksOk t = true := (allBanksOk_of_banks h).trans k

theorem allBanksOk_bankSwitch (x : Subscription) (s : State) (h : allBanksOk s = true) :
    allBanksOk (bankSwitch x s) = true := by
  unfold bankSwitch; dsimp only; split
  · have hm := banksOk_switch _ _ (banksOk_of_get h x) rfl rfl
    refine allBanksOk_keep (congrArg Base.banks (base_notify _ _ _)) ?_
    simp only [allBanksOk, Bool.and_eq_true] at h ⊢
    cases x
    · exact ⟨hm, h.2⟩
    · exact ⟨h.1, hm⟩
  · exact h

theorem allBanksOk_neighbourResult (x : Subscription) (g : Handle) (i : Nat) (v : Int) (s : State)
    (h : allBanksOk s = true) : allBanksOk (neighbourResult x g i v s) = true := by
  unfold neighbourResult; dsimp only; (repeat' split) <;> try exact h
  refine allBanksOk_keep (congrArg Base.banks (base_setSelection _ _ _)) (allBanksOk_keep (banks_updMsu _ _ _ _ _ _ _)
    (allBanksOk_bankSwitch _ _ (allBanksOk_writeReport _ _ _ (allBanksOk_keep ?_ h))))
  simp

theorem allBanksOk_reportRead (t : Target) (l m : Int) (s : State) (h : allBanksOk s = true) :
    allBanksOk (reportRead t l m s) = true := by
  unfold reportRead; dsimp only; (repeat' split) <;> try exact h
  · exact allBanksOk_keep (by simp) h
  · exact allBanksOk_keep (banks_endedReportRead _ _) (allBanksOk_neighbourResult _ _ _ _ _ h)
  · exact allBanksOk_keep (congrArg Base.banks (base_gapReportRead _ _)) (allBanksOk_neighbourResult _ _ _ _ _ h)

end Sys2Proof.Machine
end

