-- ==== Sys2Proof/Laws/Credit.lean ====
section
/-! SUPPORT. The operations that leave the tune-away credit alone, that only spend it, and the one that refills it. -/

namespace Sys2Proof.Machine

theorem creditOk_keep {s t : State} (h : (base t).ctl = (base s).ctl) (c : CreditSpent s t) (k : creditOk s = true) :
    creditOk t = true := by
  have hc : t.ceu.claim = s.ceu.claim := congrArg Ctl.claim h
  have ha : t.air = s.air := congrArg Ctl.air h
  unfold creditOk at k ⊢
  rw [hc, ha]
  obtain ⟨c1, c2⟩ := c
  split <;> rename_i hs <;> rw [hs] at k <;> simp_all
  omega

/-- The credit law carried over an operation that leaves every block of `base` alone. -/
theorem creditOk_base {s t : State} (h : base t = base s) (c : CreditSpent s t) (k : creditOk s = true) :
    creditOk t = true := creditOk_keep (congrArg Base.ctl h) c k

/-! ### Left alone -/

@[simp] theorem credit_servingSample (x : Subscription) (ch : Nat) (l : Int) (s : State) :
    (servingSample x ch l s).credit = s.credit := by
  unfold servingSample; (repeat' split) <;> rfl
@[simp] theorem credit_writeReport (x : Subscription) (r : ReportRecord) (s : State) :
    (writeReport x r s).credit = s.credit := rfl
@[simp] theorem credit_setNeighbour (x : Subscription) (i : Nat) (n : Neighbour) (s : State) :
    (setNeighbour x i n s).credit = s.credit := rfl
@[simp] theorem credit_bankSwitch (x : Subscription) (s : State) : (bankSwitch x s).credit = s.credit := by
  unfold bankSwitch; dsimp only; split <;> simp
@[simp] theorem credit_neighbourResult (x : Subscription) (h : Handle) (i : Nat) (v : Int) (s : State) :
    (neighbourResult x h i v s).credit = s.credit := by
  unfold neighbourResult; dsimp only; (repeat' split) <;> simp
@[simp] theorem credit_swapRing (x : Subscription) (t c : Nat) (o : Int) (k : Cell) (l : Option Int) (s : State) :
    (swapRing x t c o k l s).credit = s.credit := by
  unfold swapRing; dsimp only; (repeat' split) <;> simp
@[simp] theorem credit_setResume (x : Subscription) (f : Option FN) (s : State) :
    (setResume x f s).credit = s.credit := rfl
@[simp] theorem credit_reachResume (x : Subscription) (fn : FN) (s : State) :
    (reachResume x fn s).credit = s.credit := by
  unfold reachResume; split <;> rfl
@[simp] theorem credit_reanchor (x : Subscription) (fn : FN) (t : LT) (s : State) :
    (reanchor x fn t s).credit = s.credit := rfl
@[simp] theorem credit_setServing (x : Subscription) (c : Cell) (l : Option Int) (s : State) :
    (setServing x c l s).credit = s.credit := rfl
@[simp] theorem credit_setFallback (f : Option (Subscription × Timebase)) (s : State) :
    (setFallback f s).credit = s.credit := rfl
@[simp] theorem credit_setHandover (x : Subscription) (r : Option HandoverRecord) (s : State) :
    (setHandover x r s).credit = s.credit := rfl
@[simp] theorem credit_returnContext (x : Subscription) (s : State) : (returnContext x s).credit = s.credit := rfl
@[simp] theorem credit_setAside (x : Subscription) (r : HandoverRecord) (s : State) :
    (setAside x r s).2.credit = s.credit := by
  unfold setAside; dsimp only; split <;> rfl
@[simp] theorem credit_returnHeld (x : Subscription) (p : Option (Neighbour × Nat)) (s : State) :
    (returnHeld x p s).credit = s.credit := by
  unfold returnHeld; split <;> rfl
@[simp] theorem credit_dropSync (x : Subscription) (r : HandoverRecord) (s : State) :
    (dropSync x r s).credit = s.credit := by
  unfold dropSync; split <;> simp

/-! ### Only spent -/

theorem spent_handOn (w : EndedWindow) (rep : Option (Int × Int)) (s : State) : CreditSpent s (handOn w rep s) := by
  unfold handOn; dsimp only; (repeat' split) <;>
  first
  | exact (CreditSpent.after_eq (credit_servingSample _ _ _ s) (spent_judgeListen _ _ _)).then_eq
      (credit_memberGone _ _ _ _ _)
  | exact (spent_judgeListen _ _ s).then_eq (credit_memberGone _ _ _ _ _)
  | exact .of_eq (by simp)
theorem spent_failEnded (w : EndedWindow) (s : State) : CreditSpent s (failEnded w s) := by
  unfold failEnded; (repeat' split)
  · exact spent_handOn _ _ _
  · exact .of_eq (by simp)
  · exact .of_eq (by simp)
theorem spent_forWindows {f : EndedWindow → State → State} (hf : ∀ w s, CreditSpent s (f w s))
    (ws : List EndedWindow) (s : State) : CreditSpent s (forWindows f ws s) := by
  induction ws generalizing s with
  | nil => exact .refl s
  | cons w ws ih => exact (hf w s).trans (ih _)
theorem spent_handOnDropped (w : EndedWindow) (rep : Option (Int × Int)) (h : Handle) (s : State) :
    CreditSpent s (handOn w rep (dropEnded h s)) := CreditSpent.after_eq (credit_dropEnded h s) (spent_handOn _ _ _)
theorem spent_failDropped (w : EndedWindow) (h : Handle) (s : State) :
    CreditSpent s (failEnded w (dropEnded h s)) := CreditSpent.after_eq (credit_dropEnded h s) (spent_failEnded _ _)
theorem spent_endedReportRead (w : EndedWindow) (s : State) : CreditSpent s (endedReportRead w s) := by
  unfold endedReportRead; split
  · exact spent_handOnDropped _ _ _ _
  · exact .of_eq (by simp)
theorem spent_gapConcluded (h : Handle) (s : State) : CreditSpent s (gapConcluded h s) := by
  unfold gapConcluded; split
  · exact spent_endedReportRead _ _
  · exact .refl s
theorem spent_offAcked (t : Target) (s : State) : CreditSpent s (offAcked t s) := by
  unfold offAcked; (repeat' split) <;>
  first
  | exact .refl s
  | exact spent_handOnDropped _ _ _ _
  | exact spent_gapConcluded _ _
  | exact .of_eq (by simp)
theorem spent_commandAcked (c : Cmd) (s : State) : CreditSpent s (commandAcked c s) := by
  unfold commandAcked; split
  · exact spent_offAcked _ _
  · exact .of_eq (by simp)
  · exact .refl s
theorem spent_reportRead (t : Target) (l m : Int) (s : State) : CreditSpent s (reportRead t l m s) := by
  unfold reportRead; dsimp only; (repeat' split)
  · exact spent_handOnDropped _ _ _ _
  · exact .refl s
  · exact CreditSpent.after_eq (credit_neighbourResult _ _ _ _ s) (spent_endedReportRead _ _)
  · exact .of_eq (by simp)
  · exact .refl s
  · exact .refl s
theorem spent_closeEnded (h : Handle) (s : State) : CreditSpent s (closeEnded h s) := by
  unfold closeEnded; split
  · exact spent_failDropped _ _ _
  · exact .refl s
theorem spent_abortGap (h : Handle) (s : State) : CreditSpent s (abortGap h s) := by
  unfold abortGap; split
  · exact .of_eq (by simp)
  · exact spent_closeEnded _ _
theorem spent_cutGap (h : Handle) (s : State) : CreditSpent s (cutGap h s) := by
  unfold cutGap; split
  · exact .of_eq (by simp)
  · exact spent_closeEnded _ _
theorem spent_offFaulted (h : Handle) (s : State) : CreditSpent s (offFaulted h s) := by
  unfold offFaulted; (repeat' split)
  · exact spent_handOnDropped _ _ _ _
  · exact spent_failDropped _ _ _
  · exact .refl s
theorem spent_treatFault (c : Cmd) (s : State) : CreditSpent s (treatFault c s) := by
  unfold treatFault; split
  · exact .of_eq (by simp)
  · exact spent_abortGap _ _
  · exact .of_eq (by simp)
  · exact (spent_abortGap _ _).then_eq rfl
  · exact (spent_offFaulted _ _).then_eq rfl
  · exact (spent_abortGap _ _).then_eq rfl
  · exact (spent_abortGap _ _).then_eq rfl
  · exact .of_eq (by simp)
  · exact spent_closeEnded _ _
  · exact spent_cutGap _ _
  · exact .of_eq (by simp)
  · exact .refl s
theorem spent_radioDown (k : CmdKind) (s : State) : CreditSpent s (radioDown k s) := by
  unfold radioDown; dsimp only
  refine CreditSpent.then_eq (CreditSpent.after_eq ?_ (spent_forWindows spent_failEnded _ _)) (by simp; rfl)
  rw [credit_forEntries (by simp)]; rfl
theorem spent_activateStagedCall (x : Subscription) (fn : FN) (s : State) :
    CreditSpent s (activateStagedCall x fn s) := by
  unfold activateStagedCall; dsimp only; (repeat' split)
  · exact CreditSpent.after_eq rfl (spent_rematerialise _ _ _ (updCeu x _ s))
  · exact .refl s
  · exact .refl s
theorem spent_resumePatterns (x : Subscription) (s : State) : CreditSpent s (resumePatterns x s) := by
  unfold resumePatterns; dsimp only; split
  · exact (spent_activate _ _ _).trans (spent_activate _ _ _)
  · exact spent_activate _ _ _

/-! ### Refilled -/

theorem creditOk_countRefill (x : Subscription) (s : State) (k : creditOk s = true) :
    creditOk (countRefill x s) = true := by
  unfold countRefill; split
  · rename_i h
    simp only [creditOk, h] at k ⊢
    simp only [decide_eq_true_eq] at k ⊢
    unfold refillCredit; split
    · dsimp only; split <;> omega
    · exact k
  · exact k
theorem creditOk_signalFrame (x : Subscription) (s : State) (k : creditOk s = true) :
    creditOk (signalFrame x s) = true := by
  unfold signalFrame; split
  · rename_i b _
    have h := creditOk_countRefill x _
      (creditOk_keep (ctl_activateStagedCall x b.fnRef s) (spent_activateStagedCall x b.fnRef s) k)
    exact creditOk_keep (by simp) (.of_eq (by simp)) h
  · exact k

end Sys2Proof.Machine
end

