-- ==== Sys2Proof/WellFormed.lean ====
section
/-! DEFINITION. Commands whose fields fit what carries them: a request body that is one field has that field's width, a
list of neighbours fits 96 bytes (section 10-3). A value that fits and is out of its range is well formed and is
refused by its owner's tests. The meanings do not depend on this (log 27). -/

namespace Sys2Proof

/-- The body of a request can carry these fields (section 10-3): TRIM and RENEW_HOLD two bytes, READ_PLAN one,
ADJUST_TIMING four with a sign, SET_NEIGHBOURS at most 16 records. -/
def Request.fits : Request → Bool
  | .trim w => decide (w < 2 ^ 16)
  | .renewHold l => decide (l < 2 ^ 16)
  | .readPlan n => decide (n < 2 ^ 8)
  | .adjustTiming d => decide (-(2 ^ 31) ≤ d) && decide (d < 2 ^ 31)
  | .setNeighbours l => decide (l.length ≤ 16)
  | _ => true

/-- A well-formed command. -/
def Instr.wellFormed : Instr → Bool
  | .trim _ w => Request.fits (.trim w)
  | .renewHold _ l => Request.fits (.renewHold l)
  | .readPlan n => Request.fits (.readPlan n)
  | .adjustTiming _ d => Request.fits (.adjustTiming d)
  | .setNeighbours _ l => Request.fits (.setNeighbours l)
  | .requestFrameComplete _ _ _ (some r) => r.fits
  | _ => true

end Sys2Proof
end

