-- ==== Sys2Proof/Laws/PerInstr.lean ====
section
/-! SUPPORT. What is said of every command, one lemma per constructor. -/

namespace Sys2Proof.Laws

set_option Elab.async false

/-- The catalogue of section 10-3 agrees with the rows: the request a row takes, sent at the port it names, stands for that
row again, and the body of a well-formed one fits a frame (R185). -/
def Catalogue.Statement (i : Instr) : Prop :=
  ∀ q r, Machine.requestOf i = some (q, r) →
    Machine.rowOf q r = some i ∧ (i.wellFormed = true → Machine.bodyLength r ≤ 96)

theorem Catalogue.activate (x : Subscription) : Catalogue.Statement (.activate x) := by
  intro p r h
  simp only [Machine.requestOf, Option.some.injEq, Prod.mk.injEq] at h; obtain ⟨rfl, rfl⟩ := h
  cases x <;> exact ⟨rfl, by simp [Machine.bodyLength]⟩

theorem Catalogue.deactivate (x : Subscription) : Catalogue.Statement (.deactivate x) := by
  intro p r h
  simp only [Machine.requestOf, Option.some.injEq, Prod.mk.injEq] at h; obtain ⟨rfl, rfl⟩ := h
  cases x <;> exact ⟨rfl, by simp [Machine.bodyLength]⟩

theorem Catalogue.camp (x : Subscription) (b : CampBody) : Catalogue.Statement (.camp x b) := by
  intro p r h
  simp only [Machine.requestOf, Option.some.injEq, Prod.mk.injEq] at h; obtain ⟨rfl, rfl⟩ := h
  cases x <;> exact ⟨rfl, by simp [Machine.bodyLength]⟩

theorem Catalogue.reselect (x : Subscription) (b : ReselectBody) : Catalogue.Statement (.reselect x b) := by
  intro p r h
  simp only [Machine.requestOf, Option.some.injEq, Prod.mk.injEq] at h; obtain ⟨rfl, rfl⟩ := h
  cases x <;> exact ⟨rfl, by simp [Machine.bodyLength]⟩

theorem Catalogue.loseService (x : Subscription) : Catalogue.Statement (.loseService x) := by
  intro p r h
  simp only [Machine.requestOf, Option.some.injEq, Prod.mk.injEq] at h; obtain ⟨rfl, rfl⟩ := h
  cases x <;> exact ⟨rfl, by simp [Machine.bodyLength]⟩

theorem Catalogue.adjustTiming (x : Subscription) (delta : Int) : Catalogue.Statement (.adjustTiming x delta) := by
  intro p r h
  simp only [Machine.requestOf, Option.some.injEq, Prod.mk.injEq] at h; obtain ⟨rfl, rfl⟩ := h
  cases x <;> exact ⟨rfl, by simp [Machine.bodyLength]⟩

theorem Catalogue.trim (x : Subscription) (word : Nat) : Catalogue.Statement (.trim x word) := by
  intro p r h
  simp only [Machine.requestOf, Option.some.injEq, Prod.mk.injEq] at h; obtain ⟨rfl, rfl⟩ := h
  cases x <;> exact ⟨rfl, by simp [Machine.bodyLength]⟩

theorem Catalogue.readTime (q : Port) : Catalogue.Statement (.readTime q) := by
  intro p r h
  simp only [Machine.requestOf, Option.some.injEq, Prod.mk.injEq] at h; obtain ⟨rfl, rfl⟩ := h
  cases q <;> exact ⟨rfl, by simp [Machine.bodyLength]⟩

theorem Catalogue.readContext (q : Port) (who : Coded Subscription) : Catalogue.Statement (.readContext q who) := by
  intro p r h
  simp only [Machine.requestOf, Option.some.injEq, Prod.mk.injEq] at h; obtain ⟨rfl, rfl⟩ := h
  cases q <;> exact ⟨rfl, by cases who <;> simp [Machine.bodyLength]⟩

theorem Catalogue.stagePaging (x : Subscription) (c : PagingConfig) : Catalogue.Statement (.stagePaging x c) := by
  intro p r h
  simp only [Machine.requestOf, Option.some.injEq, Prod.mk.injEq] at h; obtain ⟨rfl, rfl⟩ := h
  cases x <;> exact ⟨rfl, by simp [Machine.bodyLength]⟩

theorem Catalogue.pageResult (x : Subscription) (r : Option PageOutcome) : Catalogue.Statement (.pageResult x r) := by
  intro p r h
  simp only [Machine.requestOf, Option.some.injEq, Prod.mk.injEq] at h; obtain ⟨rfl, rfl⟩ := h
  cases x <;> exact ⟨rfl, by simp [Machine.bodyLength]⟩

theorem Catalogue.reserve (x : Subscription) (b : ReserveBody) : Catalogue.Statement (.reserve x b) := by
  intro p r h
  simp only [Machine.requestOf, Option.some.injEq, Prod.mk.injEq] at h; obtain ⟨rfl, rfl⟩ := h
  cases x <;> exact ⟨rfl, by simp [Machine.bodyLength]⟩

theorem Catalogue.cancel (x : Subscription) (slot gen : BitVec 8) : Catalogue.Statement (.cancel x slot gen) := by
  intro p r h
  simp only [Machine.requestOf, Option.some.injEq, Prod.mk.injEq] at h; obtain ⟨rfl, rfl⟩ := h
  cases x <;> exact ⟨rfl, by simp [Machine.bodyLength]⟩

theorem Catalogue.enterExchange (x : Subscription) (p : Option Purpose) (timer : Nat) : Catalogue.Statement (.enterExchange x p timer) := by
  intro p r h
  simp only [Machine.requestOf, Option.some.injEq, Prod.mk.injEq] at h; obtain ⟨rfl, rfl⟩ := h
  cases x <;> exact ⟨rfl, by simp [Machine.bodyLength]⟩

theorem Catalogue.renewExchange (x : Subscription) (p : Coded Purpose) (timer : Nat) : Catalogue.Statement (.renewExchange x p timer) := by
  intro p r h
  simp only [Machine.requestOf, Option.some.injEq, Prod.mk.injEq] at h; obtain ⟨rfl, rfl⟩ := h
  cases x <;> exact ⟨rfl, by simp [Machine.bodyLength]⟩

theorem Catalogue.leaveExchange (x : Subscription) : Catalogue.Statement (.leaveExchange x) := by
  intro p r h
  simp only [Machine.requestOf, Option.some.injEq, Prod.mk.injEq] at h; obtain ⟨rfl, rfl⟩ := h
  cases x <;> exact ⟨rfl, by simp [Machine.bodyLength]⟩

theorem Catalogue.startCall (x : Subscription) (p : CallPattern) (lease : Nat) : Catalogue.Statement (.startCall x p lease) := by
  intro p r h
  simp only [Machine.requestOf, Option.some.injEq, Prod.mk.injEq] at h; obtain ⟨rfl, rfl⟩ := h
  cases x <;> exact ⟨rfl, by simp [Machine.bodyLength]⟩

theorem Catalogue.modifyCall (x : Subscription) (p : CallPattern) : Catalogue.Statement (.modifyCall x p) := by
  intro p r h
  simp only [Machine.requestOf, Option.some.injEq, Prod.mk.injEq] at h; obtain ⟨rfl, rfl⟩ := h
  cases x <;> exact ⟨rfl, by simp [Machine.bodyLength]⟩

theorem Catalogue.renewHold (x : Subscription) (lease : Nat) : Catalogue.Statement (.renewHold x lease) := by
  intro p r h
  simp only [Machine.requestOf, Option.some.injEq, Prod.mk.injEq] at h; obtain ⟨rfl, rfl⟩ := h
  cases x <;> exact ⟨rfl, by simp [Machine.bodyLength]⟩

theorem Catalogue.endCall (x : Subscription) : Catalogue.Statement (.endCall x) := by
  intro p r h
  simp only [Machine.requestOf, Option.some.injEq, Prod.mk.injEq] at h; obtain ⟨rfl, rfl⟩ := h
  cases x <;> exact ⟨rfl, by simp [Machine.bodyLength]⟩

theorem Catalogue.setMeas (x : Subscription) (b : MeasBody) : Catalogue.Statement (.setMeas x b) := by
  intro p r h
  simp only [Machine.requestOf, Option.some.injEq, Prod.mk.injEq] at h; obtain ⟨rfl, rfl⟩ := h
  cases x <;> exact ⟨rfl, by simp [Machine.bodyLength]⟩

theorem Catalogue.setNeighbours (x : Subscription) (l : List NeighbourSpec) : Catalogue.Statement (.setNeighbours x l) := by
  intro p r h
  simp only [Machine.requestOf, Option.some.injEq, Prod.mk.injEq] at h; obtain ⟨rfl, rfl⟩ := h
  cases x <;> exact ⟨rfl, by simp [Machine.bodyLength, Instr.wellFormed, Request.fits]; omega⟩

theorem Catalogue.addNeighbour (x : Subscription) (r : NeighbourSpec) : Catalogue.Statement (.addNeighbour x r) := by
  intro p r h
  simp only [Machine.requestOf, Option.some.injEq, Prod.mk.injEq] at h; obtain ⟨rfl, rfl⟩ := h
  cases x <;> exact ⟨rfl, by simp [Machine.bodyLength]⟩

theorem Catalogue.removeNeighbour (x : Subscription) (tag channel : Nat) : Catalogue.Statement (.removeNeighbour x tag channel) := by
  intro p r h
  simp only [Machine.requestOf, Option.some.injEq, Prod.mk.injEq] at h; obtain ⟨rfl, rfl⟩ := h
  cases x <;> exact ⟨rfl, by simp [Machine.bodyLength]⟩

theorem Catalogue.setClass (x : Subscription) (tag channel cls : Nat) : Catalogue.Statement (.setClass x tag channel cls) := by
  intro p r h
  simp only [Machine.requestOf, Option.some.injEq, Prod.mk.injEq] at h; obtain ⟨rfl, rfl⟩ := h
  cases x <;> exact ⟨rfl, by simp [Machine.bodyLength]⟩

theorem Catalogue.readBank (x : Subscription) : Catalogue.Statement (.readBank x) := by
  intro p r h
  simp only [Machine.requestOf, Option.some.injEq, Prod.mk.injEq] at h; obtain ⟨rfl, rfl⟩ := h
  cases x <;> exact ⟨rfl, by simp [Machine.bodyLength]⟩

theorem Catalogue.releaseBank (x : Subscription) : Catalogue.Statement (.releaseBank x) := by
  intro p r h
  simp only [Machine.requestOf, Option.some.injEq, Prod.mk.injEq] at h; obtain ⟨rfl, rfl⟩ := h
  cases x <;> exact ⟨rfl, by simp [Machine.bodyLength]⟩

theorem Catalogue.ackCandidate (x : Subscription) (tag : Nat) (channel : Option Nat) : Catalogue.Statement (.ackCandidate x tag channel) := by
  intro p r h
  simp only [Machine.requestOf, Option.some.injEq, Prod.mk.injEq] at h; obtain ⟨rfl, rfl⟩ := h
  cases x <;> exact ⟨rfl, by cases channel <;> simp [Machine.bodyLength]⟩

theorem Catalogue.handoverArm (x : Subscription) (b : ArmBody) : Catalogue.Statement (.handoverArm x b) := by
  intro p r h
  simp only [Machine.requestOf, Option.some.injEq, Prod.mk.injEq] at h; obtain ⟨rfl, rfl⟩ := h
  cases x <;> exact ⟨rfl, by simp [Machine.bodyLength]⟩

theorem Catalogue.handoverCancel (x : Subscription) : Catalogue.Statement (.handoverCancel x) := by
  intro p r h
  simp only [Machine.requestOf, Option.some.injEq, Prod.mk.injEq] at h; obtain ⟨rfl, rfl⟩ := h
  cases x <;> exact ⟨rfl, by simp [Machine.bodyLength]⟩

theorem Catalogue.handoverConfirm (x : Subscription) : Catalogue.Statement (.handoverConfirm x) := by
  intro p r h
  simp only [Machine.requestOf, Option.some.injEq, Prod.mk.injEq] at h; obtain ⟨rfl, rfl⟩ := h
  cases x <;> exact ⟨rfl, by simp [Machine.bodyLength]⟩

theorem Catalogue.handoverFail (x : Subscription) : Catalogue.Statement (.handoverFail x) := by
  intro p r h
  simp only [Machine.requestOf, Option.some.injEq, Prod.mk.injEq] at h; obtain ⟨rfl, rfl⟩ := h
  cases x <;> exact ⟨rfl, by simp [Machine.bodyLength]⟩

theorem Catalogue.readPlan (start : Nat) : Catalogue.Statement (.readPlan start) := by
  intro p r h
  simp only [Machine.requestOf, Option.some.injEq, Prod.mk.injEq] at h; obtain ⟨rfl, rfl⟩ := h
  exact ⟨rfl, by simp [Machine.bodyLength]⟩

theorem Catalogue.readPower : Catalogue.Statement (.readPower) := by
  intro p r h
  simp only [Machine.requestOf, Option.some.injEq, Prod.mk.injEq] at h; obtain ⟨rfl, rfl⟩ := h
  exact ⟨rfl, by simp [Machine.bodyLength]⟩

theorem Catalogue.clearBattery : Catalogue.Statement (.clearBattery) := by
  intro p r h
  simp only [Machine.requestOf, Option.some.injEq, Prod.mk.injEq] at h; obtain ⟨rfl, rfl⟩ := h
  exact ⟨rfl, by simp [Machine.bodyLength]⟩

theorem Catalogue.startCal : Catalogue.Statement (.startCal) := by
  intro p r h
  simp only [Machine.requestOf, Option.some.injEq, Prod.mk.injEq] at h; obtain ⟨rfl, rfl⟩ := h
  exact ⟨rfl, by simp [Machine.bodyLength]⟩

theorem Catalogue.setPolicy (b : PolicyBody) : Catalogue.Statement (.setPolicy b) := by
  intro p r h
  simp only [Machine.requestOf, Option.some.injEq, Prod.mk.injEq] at h; obtain ⟨rfl, rfl⟩ := h
  exact ⟨rfl, by simp [Machine.bodyLength]⟩

theorem Catalogue.setVote (q : Port) : Catalogue.Statement (.setVote q) := by
  intro p r h
  simp only [Machine.requestOf, Option.some.injEq, Prod.mk.injEq] at h; obtain ⟨rfl, rfl⟩ := h
  cases q <;> exact ⟨rfl, by simp [Machine.bodyLength]⟩

theorem Catalogue.clearVote (q : Port) : Catalogue.Statement (.clearVote q) := by
  intro p r h
  simp only [Machine.requestOf, Option.some.injEq, Prod.mk.injEq] at h; obtain ⟨rfl, rfl⟩ := h
  cases q <;> exact ⟨rfl, by simp [Machine.bodyLength]⟩

theorem Catalogue.fetchNotices (q : Port) : Catalogue.Statement (.fetchNotices q) := by
  intro p r h
  simp only [Machine.requestOf, Option.some.injEq, Prod.mk.injEq] at h; obtain ⟨rfl, rfl⟩ := h
  cases q <;> exact ⟨rfl, by simp [Machine.bodyLength]⟩

theorem Catalogue.portReset (x : Subscription) : Catalogue.Statement (.portReset x) := by
  intro p r h
  simp only [Machine.requestOf, Option.some.injEq, Prod.mk.injEq] at h; obtain ⟨rfl, rfl⟩ := h
  cases x <;> exact ⟨rfl, by simp [Machine.bodyLength]⟩

theorem Catalogue.appPortReset : Catalogue.Statement (.appPortReset) := by
  intro p r h
  simp only [Machine.requestOf, Option.some.injEq, Prod.mk.injEq] at h; obtain ⟨rfl, rfl⟩ := h
  exact ⟨rfl, by simp [Machine.bodyLength]⟩

theorem Catalogue.transactionStart (q : Port) : Catalogue.Statement (.transactionStart q) := by
  intro p r h
  simp [Machine.requestOf] at h

theorem Catalogue.requestFrameComplete (q : Port) (tag len : BitVec 8) (req : Option Request) : Catalogue.Statement (.requestFrameComplete q tag len req) := by
  intro p r h
  simp [Machine.requestOf] at h

theorem Catalogue.transactionEnd (q : Port) : Catalogue.Statement (.transactionEnd q) := by
  intro p r h
  simp [Machine.requestOf] at h

theorem Catalogue.wakeAsserted (q : Port) (level : Bool) : Catalogue.Statement (.wakeAsserted q level) := by
  intro p r h
  simp [Machine.requestOf] at h

theorem Catalogue.resetNAsserted : Catalogue.Statement (.resetNAsserted) := by
  intro p r h
  simp [Machine.requestOf] at h

theorem Catalogue.bringUp : Catalogue.Statement (.bringUp) := by
  intro p r h
  simp [Machine.requestOf] at h

theorem Catalogue.firstRefTick : Catalogue.Statement (.firstRefTick) := by
  intro p r h
  simp [Machine.requestOf] at h

theorem Catalogue.frameStart (x : Subscription) : Catalogue.Statement (.frameStart x) := by
  intro p r h
  simp [Machine.requestOf] at h

theorem Catalogue.fallbackFrameStart : Catalogue.Statement (.fallbackFrameStart) := by
  intro p r h
  simp [Machine.requestOf] at h

theorem Catalogue.exchangeDeadline (x : Subscription) : Catalogue.Statement (.exchangeDeadline x) := by
  intro p r h
  simp [Machine.requestOf] at h

theorem Catalogue.leaseDeadline (x : Subscription) : Catalogue.Statement (.leaseDeadline x) := by
  intro p r h
  simp [Machine.requestOf] at h

theorem Catalogue.confirmDeadline (x : Subscription) : Catalogue.Statement (.confirmDeadline x) := by
  intro p r h
  simp [Machine.requestOf] at h

theorem Catalogue.prepareEntry : Catalogue.Statement (.prepareEntry) := by
  intro p r h
  simp [Machine.requestOf] at h

theorem Catalogue.entryStart : Catalogue.Statement (.entryStart) := by
  intro p r h
  simp [Machine.requestOf] at h

theorem Catalogue.entryEnd : Catalogue.Statement (.entryEnd) := by
  intro p r h
  simp [Machine.requestOf] at h

theorem Catalogue.gapWindowTune : Catalogue.Statement (.gapWindowTune) := by
  intro p r h
  simp [Machine.requestOf] at h

theorem Catalogue.gapWindowOn : Catalogue.Statement (.gapWindowOn) := by
  intro p r h
  simp [Machine.requestOf] at h

theorem Catalogue.gapWindowEnd : Catalogue.Statement (.gapWindowEnd) := by
  intro p r h
  simp [Machine.requestOf] at h

theorem Catalogue.lostOccurrenceEnd (x : Subscription) (p : Pat) : Catalogue.Statement (.lostOccurrenceEnd x p) := by
  intro p r h
  simp [Machine.requestOf] at h

theorem Catalogue.probeTime : Catalogue.Statement (.probeTime) := by
  intro p r h
  simp [Machine.requestOf] at h

theorem Catalogue.calDue : Catalogue.Statement (.calDue) := by
  intro p r h
  simp [Machine.requestOf] at h

theorem Catalogue.wakeTarget : Catalogue.Statement (.wakeTarget) := by
  intro p r h
  simp [Machine.requestOf] at h

theorem Catalogue.activityNeedReached : Catalogue.Statement (.activityNeedReached) := by
  intro p r h
  simp [Machine.requestOf] at h

theorem Catalogue.rclAck (kind : AckKind) : Catalogue.Statement (.rclAck kind) := by
  intro p r h
  simp [Machine.requestOf] at h

theorem Catalogue.readReportAck (level metric : Int) : Catalogue.Statement (.readReportAck level metric) := by
  intro p r h
  simp [Machine.requestOf] at h

theorem Catalogue.trimAck : Catalogue.Statement (.trimAck) := by
  intro p r h
  simp [Machine.requestOf] at h

theorem Catalogue.probeAck : Catalogue.Statement (.probeAck) := by
  intro p r h
  simp [Machine.requestOf] at h

theorem Catalogue.linkFault : Catalogue.Statement (.linkFault) := by
  intro p r h
  simp [Machine.requestOf] at h

theorem Catalogue.slumberEntry : Catalogue.Statement (.slumberEntry) := by
  intro p r h
  simp [Machine.requestOf] at h

theorem Catalogue.stopEdge : Catalogue.Statement (.stopEdge) := by
  intro p r h
  simp [Machine.requestOf] at h

theorem Catalogue.enableCycle : Catalogue.Statement (.enableCycle) := by
  intro p r h
  simp [Machine.requestOf] at h

theorem Catalogue.earlyWake : Catalogue.Statement (.earlyWake) := by
  intro p r h
  simp [Machine.requestOf] at h

theorem Catalogue.slumberEnd : Catalogue.Statement (.slumberEnd) := by
  intro p r h
  simp [Machine.requestOf] at h

theorem Catalogue.calStart : Catalogue.Statement (.calStart) := by
  intro p r h
  simp [Machine.requestOf] at h

theorem Catalogue.calEnd : Catalogue.Statement (.calEnd) := by
  intro p r h
  simp [Machine.requestOf] at h

theorem Catalogue.batterySample (low critical : Bool) : Catalogue.Statement (.batterySample low critical) := by
  intro p r h
  simp [Machine.requestOf] at h

end Sys2Proof.Laws
end

