-- ==== Sys2Proof/Laws/Serve.lean ====
section
/-! SUPPORT. What the taking of a request can do (R184 to R189): nothing where the port does not hold it, otherwise an
answer in the port's engine over the reply's state. -/

namespace Sys2Proof.Machine

@[simp] theorem base_engine_ctl (q : Port) (e : Engine) (s : State) : (base (setEngine q e s)).ctl = (base s).ctl := rfl
@[simp] theorem base_engine_banks (q : Port) (e : Engine) (s : State) :
    (base (setEngine q e s)).banks = (base s).banks := rfl

theorem serve_none {q : Port} {r : Request} {f : State → Reply} {s : State} (h : pendingTag q r s = none) :
    serve q r f s = .next s := by
  simp [serve, h]

theorem serve_some {q : Port} {r : Request} {f : State → Reply} {s : State} {tag : BitVec 8}
    (h : pendingTag q r s = some tag) : serve q r f s = .next (reply q tag s (f s)) := by
  simp [serve, h]

/-- Every reply ends in an answer at the port: over the state itself for a refusal, over the reply's state otherwise. -/
theorem reply_cases (q : Port) (tag : BitVec 8) (s : State) (r : Reply) :
    (∃ st, r = .refuse st ∧ reply q tag s r = answer q tag st .empty s) ∨
    (∃ st b t, r = .quiet st b t ∧ reply q tag s r = answer q tag st b t) ∨
    (∃ st b t, r = .accept st b t ∧ reply q tag s r = answer q tag st b (settle t)) := by
  cases r
  · exact .inl ⟨_, rfl, rfl⟩
  · exact .inr (.inl ⟨_, _, _, rfl, rfl⟩)
  · exact .inr (.inr ⟨_, _, _, rfl, rfl⟩)

/-- The state a reply leaves, before the answer and what follows it: a refusal leaves it as it was. -/
def Reply.after (r : Reply) (s : State) : State :=
  match r with
  | .refuse _ => s
  | .quiet _ _ t => t
  | .accept _ _ t => t

/-- A property that the state has, that the reply leaves, and that answers and `settle` keep, holds after the request has
been taken. -/
theorem serve_keeps {P : State → Prop} {q : Port} {r : Request} {f : State → Reply} {s t : State}
    (hans : ∀ e u, P u → P (setEngine q e u)) (hset : ∀ u, P u → P (settle u)) (hs : P s) (hf : P ((f s).after s))
    (h : serve q r f s = .next t) : P t := by
  unfold serve at h
  split at h
  · have h' : reply q _ s (f s) = t := Host.Outcome.next.inj h
    rw [← h']
    cases hr : f s <;> rw [hr] at hf
    · exact hans _ _ hf
    · exact hans _ _ hf
    · exact hans _ _ (hset _ hf)
  · exact (Host.Outcome.next.inj h) ▸ hs

end Sys2Proof.Machine
end

