-- ==== Sys2Proof/Tests/Slice0.lean ====
section
/-! SUPPORT. Tests: ill-formed commands refused by each check of `wellFormed`; single steps with the results the manual's
worked cases print; and for every statement with hypotheses, states and operands that meet them, clause by clause at the
ends of its ranges. -/

namespace Sys2Proof.Tests

open Sys2Proof.Machine

set_option Elab.async false

/-! ### Small states -/

/-- LT counts, nothing else has happened. -/
def run : State := { State.reset with phase := .running }

/-- LT at `n`. -/
def atLt (n : Nat) (s : State) : State := { s with tbu := { s.tbu with lt := BitVec.ofNat 48 n } }

/-- The port's engine holds the request, with tag 7. -/
def held (q : Port) (r : Request) (s : State) : State := { s with engines := s.engines.set q (.pending 7 r) }

/-- A context in the given state with no other field. -/
def ctxOf (x : Subscription) (st : CtxState) (s : State) : State :=
  { s with cxm := s.cxm.set x { Context.atReset with state := st } }

/-- A timebase record with no slew. -/
def recordOf (x : Subscription) (fn lt : Nat) (s : State) : State :=
  let b : Timebase := { fnRef := BitVec.ofNat 12 fn, ltRef := BitVec.ofNat 48 lt, slew := none }
  { s with tbu := { s.tbu with record := s.tbu.record.set x (some b) } }

/-- On the cell 412 on channel 1,870 in the given state, with a record (10, 0). -/
def onCellAs (x : Subscription) (st : CtxState) (s : State) : State :=
  let c : Context := { Context.atReset with state := st, serving := some { tag := 412, channel := 1870 } }
  recordOf x 10 0 { s with cxm := s.cxm.set x c }

/-- A plan entry. -/
def entry (x : Subscription) (o : Origin) (k : Kind) (pri start stop ch : Nat) (slot : Fin 48) (gen : Nat)
    (st : EntryState) : Entry :=
  { handle := { slot := slot, gen := BitVec.ofNat 8 gen }, owner := x, origin := o, kind := k, priority := pri,
    frame := none, start := BitVec.ofNat 48 start, stop := BitVec.ofNat 48 stop, channel := ch, txLevel := none,
    index := none, measureList := none, partner := none, state := st, cut := false }

def planOf (l : List Entry) (s : State) : State := { s with plan := l }

/-- The outcome is a next state with the property. -/
def gives (o : Answered) (p : State → Bool) : Bool :=
  match o with
  | .next t => p t
  | _ => false

/-- The answer a port's engine holds. -/
def answerOf (q : Port) (s : State) : Option (Status × Body) :=
  match s.engines.get q with
  | .answering a => some (a.status, a.body)
  | _ => none

/-- A neighbour of class 0 with no flag. -/
def neighbour (tag ch : Nat) (level : Option Int) (count : Nat) : Neighbour :=
  { tag := tag, channel := ch, cls := 0, offset := some 0, level := level, count := count, above := false,
    reported := false, stale := false }

def ringOf (x : Subscription) (l : List Neighbour) (s : State) : State :=
  { s with msu := s.msu.set x { s.msu.get x with ring := l } }

/-- x in a call with this pattern, lease 200. -/
def callOf (x : Subscription) (p : CallPattern) (s : State) : State :=
  let i : CeuItems := { CeuItems.atReset with lease := some 200, active := some p }
  { s with ceu := { claim := some x, items := s.ceu.items.set x i } }

/-! ### Ill-formed commands -/

theorem test_trim_over_two_bytes : Instr.wellFormed (.trim .A 65536) = false := by decide
theorem test_renewHold_over_two_bytes : Instr.wellFormed (.renewHold .A 65536) = false := by decide
theorem test_readPlan_over_one_byte : Instr.wellFormed (.readPlan 256) = false := by decide
theorem test_adjustTiming_over_four_bytes : Instr.wellFormed (.adjustTiming .A 2147483648) = false := by decide
theorem test_adjustTiming_below_four_bytes : Instr.wellFormed (.adjustTiming .A (-2147483649)) = false := by decide
theorem test_setNeighbours_of_seventeen :
    Instr.wellFormed (.setNeighbours .A (List.replicate 17 { tag := 0, channel := 0, cls := 0, offset := none })) =
      false := by decide
theorem test_frame_with_ill_formed_request :
    Instr.wellFormed (.requestFrameComplete .P 0 1 (some (.readPlan 256))) = false := by decide
theorem test_well_formed_at_the_ends :
    Instr.wellFormed (.trim .A 65535) = true ∧ Instr.wellFormed (.adjustTiming .A (-2147483648)) = true ∧
    Instr.wellFormed (.readPlan 255) = true := by decide

/-! ### Worked cases of the manual -/

/-- Section 1-3: d = 11, local start 1,002,873,000. -/
theorem test_conversion_across_the_wrap :
    convert { fnRef := 4090, ltRef := 1000000000, slew := none } { fn := 5, fp := 13000 } = some 1002873000 := by decide

/-- R15: LT_ref 70,002,000; at 70,000,500 the previous frame with FP 258,500, at 70,002,500 FP 500. -/
theorem test_frame_time_of_now :
    frameTimeNow { fnRef := 9, ltRef := 70002000, slew := none } 70000500 = { fn := 8, fp := 258500 } ∧
    frameTimeNow { fnRef := 9, ltRef := 70002000, slew := none } 70002500 = { fn := 9, fp := 500 } := by decide

/-- Section 3-4: the newcomer meets 4/9 and 6/2, and not 2/5. -/
theorem test_obstacles_of_one_newcomer :
    let e := entry .B .oneShot .exchRx 3 10150000 10228000 2204 0 11 .admitted
    conflicts 5200 1300 e (entry .A .oneShot .search 0 9900000 10160000 300 4 9 .executing) = true ∧
    conflicts 5200 1300 e (entry .B .meas .measureGap 1 10200000 10252000 2204 6 2 .admitted) = true ∧
    conflicts 5200 1300 e (entry .A .page .listen 2 10400000 10405200 1870 2 5 .admitted) = false := by decide

/-- The plan of section 3-4's worked case, A and B in EXCHANGE. -/
def casePlan : State :=
  let s := atLt 10000000 (onCellAs .A .exchange (onCellAs .B .exchange run))
  planOf [entry .A .oneShot .search 0 9900000 10160000 300 4 9 .executing,
    entry .B .meas .measureGap 1 10200000 10252000 2204 6 2 .admitted,
    entry .A .page .listen 2 10400000 10405200 1870 2 5 .admitted]
    { s with gens := (((s.gens.set 0 11).set 1 4).set 4 9).set 6 2, power := { s.power with state := .active } }

def caseReserve : ReserveBody :=
  { kind := some .exchRx, form := 1, start := 10150000, length := 78000, channel := 2204, txLevel := 0 }

/-- Section 3-4: admitted as 0/11; 4/9 ends at 10,144,800; 6/2 has left and slot 6 is at generation 3. -/
theorem test_reserve_of_the_worked_case :
    gives (exec (.reserve .B caseReserve) (held .B (.reserve caseReserve) casePlan)) (fun t =>
      answerOf .B t == some (.ok, .reserved { slot := 0, gen := 11 } 10150000) &&
      (t.plan.map (fun e => (e.handle.slot.val, e.stop.toNat))) == [(4, 10144800), (0, 10228000), (2, 10405200)] &&
      t.gens[(6 : Fin 48)] == 3) = true := by decide +kernel

/-- Section 3-4: against an EXCH_TX of priority 3 from 10,232,000 the RESERVE is refused CONFLICT. -/
theorem test_reserve_against_equal_priority :
    let p := entry .A .oneShot .exchTx 3 10232000 10240000 1870 7 0 .admitted
    let s := planOf (casePlan.plan.take 2 ++ [p] ++ casePlan.plan.drop 2) casePlan
    gives (exec (.reserve .B caseReserve) (held .B (.reserve caseReserve) s)) (fun t =>
      answerOf .B t == some (.conflict, .empty) && t.plan == s.plan) = true := by decide +kernel

/-- Section 7-5: −190 with −171 gives −186; then −200 gives −189; then −186 leaves −189. -/
theorem test_filter_at_two :
    filterLevel 2 (some (-190)) (-171) = -186 ∧ filterLevel 2 (some (-186)) (-200) = -189 ∧
    filterLevel 2 (some (-189)) (-186) = -189 := by decide

/-- Section 7-4: positions 3 and 0 are taken, 0 in round 2; the stop position is 1 in round 2. -/
theorem test_selection_in_round_one :
    let n (cls : Nat) : Neighbour := { neighbour 0 0 none 0 with cls := cls }
    let r := scan MeasSettings.default [n 0, n 2, n 1, n 0, n 1] 5 2 2 1
    r.1.map (fun t => (t.position, t.round)) = [(3, 1), (0, 2)] ∧ r.2 = (1, 2) := by decide

/-- Section 9-3: S 41,940, E 33,274,762, new F 152; after a WAKE at 10,000, E 7,986,260 and F 506. -/
theorem test_one_slumber :
    slumberCycles 5000000000 5033275000 10 812431 = 41940 ∧ slumberTicks 41940 812431 300 10 = 33274762 ∧
    slumberCarry 41940 812431 300 10 = 152 ∧ slumberTicks 10066 812431 300 10 = 7986260 ∧
    slumberCarry 10066 812431 300 10 = 506 := by decide

/-- Section 9-8: 812,487 is within 12,695 of 812,500; the window's ends. -/
theorem test_calibration_window :
    calAccepted 812487 10 = true ∧ calAccepted 825195 10 = true ∧ calAccepted 825196 10 = false ∧
    calAccepted 799805 10 = true ∧ calAccepted 799804 10 = false := by decide

/-- The state of section 7-6's worked sequence, with the first window's report to come. -/
def caseGap : State :=
  let s := onCellAs .A .camped run
  let m : Msu :=
    { Msu.atReset with
      settings := { MeasSettings.default with n := 2 },
      ring := [neighbour 501 1880 (some (-190)) 1, { neighbour 502 1902 (some (-200)) 0 with cls := 1 },
        { neighbour 503 1950 (some (-205)) 0 with cls := 2 }],
      bank0 := { Bank.cleared .filling with records := [
        { tag := 1, channel := 1, raw := -200, level := -200, round := 0, stale := false, candidate := false,
          above := false }] } }
  let sel : Selection :=
    { handle := { slot := 3, gen := 0 }, next := 0, stopPosition := 2, stopRound := 0, void := false,
      list := [{ tag := 501, channel := 1880, position := 0, round := 0 },
        { tag := 502, channel := 1902, position := 1, round := 0 }] }
  { s with msu := s.msu.set .A m, selection := s.selection.set .A (some sel),
           cxm := s.cxm.set .A { s.cxm.a with level := some (-196) } }

/-- Section 7-6: 501 becomes −186, count 2, ABOVE and REPORTED; bank 0 READY with two records; the pointer at 1; CANDIDATE
before BANK_READY. -/
theorem test_gap_brings_a_candidate :
    let t := neighbourResult .A { slot := 3, gen := 0 } 0 (-171) caseGap
    t.msu.a.ring[0]?.map (fun n => (n.level, n.count, n.above, n.reported)) = some (some (-186), 2, true, true) ∧
    t.msu.a.bank0.state = .ready ∧ t.msu.a.bank0.records.length = 2 ∧ t.msu.a.bank1.state = .filling ∧
    t.msu.a.pointer = 1 ∧
    t.queues.a.items.map (·.body) = [.candidate 501 1880 (-186) (-196), .bankReady 0 2 false] := by decide

/-- The state of section 8-5's worked sequence. -/
def caseArm : State :=
  let s := onCellAs .B .camped (atLt 700010000 (recordOf .A 3000 700000000 (onCellAs .A .call run)))
  ringOf .A [{ neighbour 501 1880 (some (-180)) 0 with offset := some (-40000) }]
    { s with ceu := { s.ceu with claim := some .A } }

def armBody : ArmBody := { tag := 501, channel := 1880, fnS := 3006, fnNew := 118, sync := 1, limit := 20 }

/-- Section 8-5: the SYNC lies at 701,520,000 to 701,774,800; the context is in HANDOVER with prior state CALL. -/
theorem test_handover_arm_of_the_worked_sequence :
    gives (exec (.handoverArm .A armBody) (held .A (.handoverArm armBody) caseArm)) (fun t =>
      answerOf .A t == some (.ok, .armed { slot := 0, gen := 0 } 701520000 701774800) &&
      t.cxm.a.state == .handover && t.cxm.a.prior == some .call && (t.hou.a.record.map (·.phase)) == some .armed) =
      true := by decide +kernel

/-- Section 4-5: the command in flight for 260 ticks is a fault; the count rises to 1 and the indicator is set. -/
theorem test_tune_not_acknowledged :
    let s := atLt 40000260 run
    let u := { s with rsq := { s.rsq with inFlight := some (.standby, 40000000), record := .ready } }
    gives (exec .linkFault u) (fun t => t.rsq.faults == 1 && t.rsq.indicator && t.rsq.link == .up) = true := by
  decide +kernel

/-- Section 4-5: the third fault makes the link RADIO_DOWN at 40,024,020, with the probe time 42,104,020. -/
theorem test_third_fault :
    let s := atLt 40024020 run
    let u := { s with rsq := { s.rsq with inFlight := some (.standby, 40023760), record := .standby, faults := 2 } }
    gives (exec .linkFault u) (fun t => t.rsq.link == .radioDown && t.rsq.probeTime == some 42104020 &&
      t.queues.a.items.map (·.body) == [.radioDown .standby] &&
      t.queues.p.items.map (·.body) == [.radioDown .standby]) = true := by decide +kernel

/-- R198: the first tick sends POWER_UP, settled 52,000 ticks later, with STANDBY to follow. -/
theorem test_first_tick :
    gives (exec .firstRefTick { State.reset with phase := .starting }) (fun t =>
      t.rsq.inFlight == some (.powerUp false true, 0) && t.rsq.settledAt == some 52000 && t.rsq.waiting == [.standby]) =
      true := by decide +kernel

/-- R191: the 17th notice is dropped and sets the overflow flag. -/
theorem test_seventeenth_notice :
    let n : Notice := { body := .leaseLost, sub := some .A, stamp := 0 }
    let q : NoticeQueue := { items := List.replicate 16 n, overflow := false }
    (q.push n).items.length = 16 ∧ (q.push n).overflow = true := by decide

/-- The state of section 1-4's worked case, B's pending slew −2,600 and the frame start at 50,260,000. -/
def caseSlew : State :=
  let s := atLt 50260000 (recordOf .B 100 50000000 (onCellAs .B .exchange (onCellAs .A .camped run)))
  let b : Timebase := { fnRef := 100, ltRef := 50000000, slew := some (-2600) }
  let pat : Pattern :=
    { active := true, pending := .inPlan [{ slot := 3, gen := 0 }] 50560000 none, lastFrame := some 102,
      firstFrame := none }
  planOf [
    { entry .B .oneShot .exchRx 3 50263000 50276000 2204 2 0 .preparing with frame := some { fn := 101, fp := 3000 } },
    entry .A .page .listen 2 50550000 50554800 1870 1 0 .admitted,
    { entry .B .page .listen 2 50560000 50565200 2204 3 0 .admitted with
      frame := some { fn := 102, fp := 40000 }, index := some 17 }]
    { s with tbu := { s.tbu with record := s.tbu.record.set .B (some b) },
             patterns := s.patterns.set .B { Patterns.atReset with page := pat },
             power := { s.power with state := .active } }

/-- Section 1-4: LT_ref 50,257,400; b1 keeps its times with frame start (101, 5,600); b2 is lost with reason SLEW, which both
queues hear. -/
theorem test_negative_slew_costs_a_listen :
    gives (exec (.frameStart .B) caseSlew) (fun t =>
      t.tbu.record.b == some { fnRef := 101, ltRef := 50257400, slew := none } &&
      t.plan.map (fun e => (e.handle.slot.val, e.start.toNat, e.frame)) ==
        [(2, 50263000, some { fn := 101, fp := 5600 }), (1, 50550000, none)] &&
      t.queues.b.items.map (·.body) == [.pageMissed .listen 102 .slew] &&
      t.queues.p.items.map (·.body) == [.pageMissed .listen 102 .slew]) = true := by decide +kernel

/-- The state of section 6-4's worked sequence. -/
def caseCall : State :=
  let s := atLt 500000000 (recordOf .A 2000 499900000 (onCellAs .A .exchange (onCellAs .B .exchange run)))
  let c : PagingConfig :=
    { cycle := 256, frame := 3, listenFp := 20000, listenLen := 5200, index := 0, tA := 60, tP := 180, readOffset := 2,
      readFp := 0, readLen := 52000 }
  let pat : Pattern :=
    { active := true, pending := .inPlan [{ slot := 4, gen := 6 }] 500700000 none, lastFrame := some 2003,
      firstFrame := none }
  planOf [entry .A .oneShot .exchRx 3 500300000 500340000 1870 2 8 .admitted,
    entry .A .page .listen 2 500700000 500705200 1870 4 6 .admitted,
    entry .B .oneShot .exchTx 3 500970000 500990000 2204 12 3 .admitted]
    { s with gens := ((s.gens.set 2 8).set 4 6).set 12 3,
             pgu := s.pgu.set .A { s.pgu.a with active := some c },
             patterns := s.patterns.set .A { Patterns.atReset with page := pat } }

def callPattern : CallPattern :=
  { marks := 0b00010001, rxFp := 20000, rxLen := 15000, txFp := 60000, txLen := 15000, txLevel := 30 }

/-- Section 6-4: CLAMPED; the lease until 552,000,000; 12/3 at priority 2; 4/6 gone without a notice; the call frame of 2004
yields, credit 1, its would-be end 501,015,000. -/
theorem test_start_call_of_the_worked_sequence :
    gives (exec (.startCall .A callPattern 0) (held .A (.startCall callPattern 0) caseCall)) (fun t =>
      answerOf .A t == some (.clamped, .empty) && t.ceu.claim == some .A && t.credit.credit == 1 &&
      t.cxm.a.leaseDeadline == some 552000000 && t.gens[(4 : Fin 48)] == 7 &&
      t.plan.map (fun e => (e.handle.slot.val, e.priority)) == [(2, 3), (12, 2)] &&
      t.patterns.a.call.pending == .lost 500960000 501015000 &&
      t.queues.a.items.map (·.body) == [.callYield { fn := 2004, fp := 20000 }]) = true := by decide +kernel

/-- Section 3-8's worked case: the page read takes the call frame of 800, the one of 801 yields to it; credit 0. -/
theorem test_page_read_across_two_call_frames :
    let s := atLt 99800000 (recordOf .A 799 99740000 (onCellAs .A .call (onCellAs .B .camped run)))
    let h : Handle := { slot := 7, gen := 1 }
    let g : Handle := { slot := 8, gen := 1 }
    let pat : Pattern :=
      { active := true, pending := .inPlan [h, g] 100020000 none, lastFrame := some 800, firstFrame := none }
    let u := planOf [
      { entry .A .call .callRx 3 100020000 100035000 1870 7 1 .admitted with
        frame := some { fn := 800, fp := 20000 }, partner := some g },
      { entry .A .call .callTx 3 100060000 100075000 1870 8 1 .admitted with
        frame := some { fn := 800, fp := 60000 }, partner := some h }]
      (callOf .A { callPattern with marks := 3 }
        { s with credit := { credit := 2, refill := 0 },
                 patterns := s.patterns.set .A { Patterns.atReset with call := pat } })
    (match admitEntries false [entry .B .pageRead .pageRead 2 100050000 100310000 2204 0 0 .admitted] u with
      | .admitted _ v => gives (.next (materialiseAll v)) (fun t =>
        t.plan.map (fun e => (e.kind, e.start.toNat)) == [(.pageRead, 100050000)] && t.credit.credit == 0 &&
        t.patterns.a.call.pending == .lost 100280000 100335000 &&
        t.queues.a.items.map (·.body) ==
          [.callYield { fn := 800, fp := 20000 }, .callYield { fn := 801, fp := 20000 }])
      | _ => false) = true := by decide +kernel

/-- The state of section 5-5's worked sequence, with the report of the ended LISTEN to come. -/
def casePage : State :=
  let s := atLt 300045370 (recordOf .B 1061 300000000 (onCellAs .B .camped run))
  let h : Handle := { slot := 5, gen := 3 }
  let c : PagingConfig :=
    { cycle := 64, frame := 37, listenFp := 40000, listenLen := 5200, index := 17, tA := 60, tP := 180, readOffset := 2,
      readFp := 30000, readLen := 52000 }
  let w : EndedWindow :=
    { entry := entry .B .page .listen 2 300040000 300045200 1870 5 3 .executing, cause := .done, stamp := 300045200,
      awaiting := 0 }
  let pat : Pattern :=
    { active := true, pending := .inPlan [h] 300040000 none, lastFrame := some 1061, firstFrame := none }
  let l : ListenRecord := { handle := h, frame := 1061, config := c, epoch := 0 }
  { s with gens := s.gens.set 5 4, missed := s.missed.set .B 4,
           pgu := s.pgu.set .B { s.pgu.b with active := some c, listens := [l] },
           patterns := s.patterns.set .B { Patterns.atReset with page := pat },
           rsq := { s.rsq with ended := [w], record := .ready, inFlight := some (.readReport (.ended h), 300045280) } }

/-- Section 5-5: PRESENT; the read at 300,550,000 and the next listen at 316,680,000 are in the plan; level −172. -/
theorem test_a_page_is_found :
    gives (exec (.readReportAck (-172) 212) casePage) (fun t =>
      t.queues.b.items.map (·.body) == [.page .present (some 212) 1061] && t.cxm.b.level == some (-172) &&
      t.plan.map (fun e => (e.kind, e.start.toNat, e.stop.toNat)) ==
        [(.pageRead, 300550000, 300602000), (.listen, 316680000, 316685200)] &&
      t.pgu.b.listens.map (·.frame) == [1125] && t.missed.b == 4) = true := by decide +kernel

/-- The armed handover of section 8-5 at the frame start of its switch frame. -/
def caseSwitch : State :=
  let s := onCellAs .B .camped (atLt 701560000 (recordOf .A 3005 701300000 (onCellAs .A .handover run)))
  let r : HandoverRecord :=
    { phase := .armed, tag := 501, channel := 1880, offset := -40000, fnS := 3006, fnNew := 118, syncFrames := 1,
      limit := 20, sync := { slot := 1, gen := 0 }, fallbackCell := none, held := none, confirm := none }
  let pat : Pattern :=
    { active := true, pending := .inPlan [{ slot := 2, gen := 0 }, { slot := 3, gen := 0 }] 702100000 none,
      lastFrame := some 3008, firstFrame := none }
  let c : Context :=
    { s.cxm.a with prior := some .call, leaseDeadline := some 740000000, level := some (-196) }
  ringOf .A [{ neighbour 501 1880 (some (-180)) 0 with offset := some (-40000) }]
    (planOf [entry .A .sync .sync 3 701520000 701774800 1880 1 0 .executing,
      { entry .A .call .callRx 3 702100000 702115000 1870 2 0 .admitted with
        frame := some { fn := 3008, fp := 20000 }, partner := some { slot := 3, gen := 0 } },
      { entry .A .call .callTx 3 702140000 702155000 1870 3 0 .admitted with
        frame := some { fn := 3008, fp := 60000 }, partner := some { slot := 2, gen := 0 } }]
      (callOf .A { callPattern with txLevel := 24 }
        { s with cxm := s.cxm.set .A c, hou := s.hou.set .A { record := some r, reselect := none },
                 patterns := s.patterns.set .A { Patterns.atReset with call := pat },
                 power := { s.power with state := .active } }))

/-- Section 8-5: the fallback (3006, 701,560,000), the record (118, 701,520,000), the serving cell 501 at −180, the resume frame
119, the call frame of 120 placed, the deadline 706,760,000, and the notice with its offset and limit. -/
theorem test_switch_of_the_worked_sequence :
    gives (exec (.frameStart .A) caseSwitch) (fun t =>
      t.tbu.fallback == some (.A, { fnRef := 3006, ltRef := 701560000, slew := none }) &&
      t.tbu.record.a == some { fnRef := 118, ltRef := 701520000, slew := none } &&
      t.cxm.a.serving == some { tag := 501, channel := 1880 } && t.cxm.a.level == some (-180) && t.msu.a.ring == [] &&
      t.ceu.items.a.resume == some 119 && (t.hou.a.record.bind (·.confirm)) == some 706760000 &&
      t.plan.map (fun e => (e.kind, e.start.toNat, e.channel)) ==
        [(.sync, 701520000, 1880), (.callRx, 702060000, 1880), (.callTx, 702100000, 1880)] &&
      t.queues.a.items.map (·.body) == [.handoverSwitched 118 (-40000) 20]) = true := by decide +kernel

/-- The switched handover of section 8-5 at 702,200,000, the level at −179 and the fallback advanced. -/
def caseConfirm : State :=
  let s := onCellAs .B .camped (atLt 702200000 (recordOf .A 120 702040000 (onCellAs .A .handover run)))
  let n : Neighbour := { neighbour 501 1880 (some (-180)) 0 with offset := some (-40000) }
  let r : HandoverRecord :=
    { phase := .switched, tag := 501, channel := 1880, offset := -40000, fnS := 3006, fnNew := 118, syncFrames := 1,
      limit := 20, sync := { slot := 1, gen := 0 },
      fallbackCell := some { cell := { tag := 412, channel := 1870 }, level := some (-196) }, held := some (n, 0),
      confirm := some 706760000 }
  let c : Context :=
    { s.cxm.a with prior := some .call, leaseDeadline := some 740000000, level := some (-179),
                   serving := some { tag := 501, channel := 1880 } }
  let pat : Pattern := { active := true, pending := .none, lastFrame := some 120, firstFrame := none }
  callOf .A { callPattern with txLevel := 24 }
    { s with cxm := s.cxm.set .A c, hou := s.hou.set .A { record := some r, reselect := none },
             tbu := { s.tbu with fallback := some (.A, { fnRef := 3008, ltRef := 702080000, slew := none }) },
             patterns := s.patterns.set .A { Patterns.atReset with call := pat } }

/-- Section 8-5: the old cell takes position 0 with class 1, level −196 and offset +40,000, STALE; the level stays −179. -/
theorem test_confirm_of_the_worked_sequence :
    gives (exec (.handoverConfirm .A) (held .A .handoverConfirm caseConfirm)) (fun t =>
      t.cxm.a.state == .call && t.cxm.a.level == some (-179) && t.tbu.fallback == none && t.hou.a.record == none &&
      t.msu.a.ring == [{ tag := 412, channel := 1870, cls := 1, offset := some 40000, level := some (-196), count := 0,
                         above := false, reported := false, stale := true }] &&
      t.queues.a.items.map (·.body) == [.handoverDone 501 1880]) = true := by decide +kernel

/-- Section 8-5: with HANDOVER_FAIL instead, the record (3008, 702,080,000), the cell 412 at −196, 501 back at position 0, and
the call frame of 3012 placed from 703,140,000. -/
theorem test_fail_of_the_worked_sequence :
    gives (exec (.handoverFail .A) (held .A .handoverFail caseConfirm)) (fun t =>
      t.tbu.record.a == some { fnRef := 3008, ltRef := 702080000, slew := none } &&
      t.cxm.a.serving == some { tag := 412, channel := 1870 } && t.cxm.a.level == some (-196) &&
      t.msu.a.ring.map (fun n => (n.tag, n.level)) == [(501, some (-180))] &&
      t.plan.map (fun e => (e.kind, e.start.toNat)) == [(.callRx, 703140000), (.callTx, 703180000)] &&
      t.queues.a.items.map (·.body) == [.handoverFailed .request]) = true := by decide +kernel

/-- Section 9-8: TRIM 4180, 84 steps from the reference trim: K suspect, the calibration WAITING, its due withdrawn. -/
theorem test_a_trim_step :
    let s := onCellAs .A .camped run
    let u := { s with csc := { s.csc with k := 812431, valid := true, cal := .idle, calDue := some 520000000 } }
    gives (exec (.trim .A 4180) (held .A (.trim 4180) u)) (fun t =>
      t.tbu.trimWord == 4180 && t.csc.suspect && t.csc.cal == .waiting && t.csc.calDue == none) = true := by
  decide +kernel

/-- Section 11-2, with A's record alone: LT 1,029,927,918, F 700, residual 582, and 76 frame starts taken in the jump. -/
theorem test_slumber_end_of_the_worked_sequence :
    let s := recordOf .A 100 1009960000 (onCellAs .A .camped run)
    let r : SlumberRecord :=
      { l0 := 1010006593, w := 1029928500, s := 25107, enable := 25041, cycles := 25106, early := none }
    let p : Power := { s.power with state := .waking, record := some r, wakeTarget := some 1029928500 }
    let u := atLt 1010006593 { s with power := p, csc := { s.csc with k := 812500, c := 10, f := 0 } }
    gives (exec .slumberEnd u) (fun t =>
      t.tbu.lt == 1029927918 && t.csc.f == 700 && t.power.last.map (·.residual) == some 582 &&
      t.tbu.record.a == some { fnRef := 176, ltRef := 1029720000, slew := none }) = true := by decide +kernel

/-- R77, R79: a window open at a truncated end is closed with OFF, and the gap's outcome waits for it. -/
theorem test_open_window_at_a_truncated_end :
    let g : GapRun := { handle := { slot := 3, gen := 0 }, owner := .A, count := 2, guard := 5200, index := 0,
                        stage := .opened, awaiting := 0 }
    let e := { entry .A .meas .measureGap 1 0 18000 1870 3 0 .executing with cut := true }
    let s := atLt 18000 (planOf [e] { caseGap with rsq := { caseGap.rsq with gap := some g, record := .ready } })
    gives (exec .entryEnd s) (fun t => t.plan == [] && t.rsq.ended.map (·.awaiting) == [1] &&
      t.rsq.inFlight == some (.off (.gapCut { slot := 3, gen := 0 }), 18000)) = true := by decide +kernel

/-- R83: an entry to be prepared at the PROBE_ACK finds the transceiver settling and is aborted with RADIO, after POWER_UP. -/
theorem test_radio_up_aborts_an_unsettled_entry :
    let e := entry .B .oneShot .search 0 2006500 2010000 5 0 0 .admitted
    let s := atLt 2000000 (planOf [e] { run with rsq :=
      { run.rsq with link := .radioDown, record := .ready, settledAt := some 0, inFlight := some (.probe, 1999990) } })
    gives (exec .probeAck s) (fun t => t.plan == [] && t.rsq.inFlight == some (.powerUp true true, 2000000) &&
      t.queues.b.items.map (·.body) == [.radioUp 0,
        .aborted { handle := e.handle, kind := .search, reason := some .radio, level := none }]) = true := by decide +kernel

/-- R69: of an OFF and a TUNE due at one LT the OFF is sent, whichever row is taken first. -/
theorem test_off_before_tune_at_one_instant :
    let s := atLt 20005200 (planOf [entry .B .page .listen 2 20000000 20005200 2204 5 3 .executing,
      entry .A .oneShot .exchRx 3 20011700 20020000 300 0 0 .admitted]
      { run with rsq := { run.rsq with record := .ready, settledAt := some 0 },
                 power := { run.power with state := .active } })
    gives (exec .prepareEntry s) (fun t => t.rsq.inFlight == none && gives (exec .entryEnd t) (fun u =>
      u.rsq.inFlight == some (.off (.ended { slot := 5, gen := 3 }), 20005200) && u.rsq.waiting.length == 1)) = true := by
  decide +kernel

/-- R69, R152: at the switch frame start an EXECUTING one-shot is cut; its OFF goes out before the TUNE of an entry prepared
at the same LT, whichever row is taken first. -/
theorem test_off_of_a_flush_before_tune :
    let s := planOf [entry .A .oneShot .exchRx 3 701500000 701700000 1870 6 0 .executing,
      entry .B .oneShot .exchRx 3 701566500 701600000 300 0 0 .admitted]
      (recordOf .B 3005 701400000
        { caseSwitch with rsq := { caseSwitch.rsq with record := .ready, settledAt := some 0 } })
    gives (exec .prepareEntry s) (fun t => t.rsq.inFlight == none && gives (exec (.frameStart .A) t) (fun u =>
      u.rsq.inFlight == some (.off .none, 701560000) && u.rsq.waiting.length == 1)) = true := by decide +kernel

/-- R49, R118: a call ends while the CALL_TX of a call frame whose CALL_RX was aborted is EXECUTING: PATTERN_LOST is told once,
with the CALL_TX's outcome. -/
theorem test_held_loss_is_told_after_the_call :
    let h : Handle := { slot := 8, gen := 1 }
    let lost : LossDetail := { kind := .callRx, frame := { fn := 10, fp := 0 }, reason := .radio }
    let pat : Pattern := { active := true, pending := .inPlan [h] 100000 (some lost), lastFrame := some 10, firstFrame := none }
    let tx := entry .A .call .callTx 3 0 130000 5 8 1 .executing
    let s := planOf [tx] (callOf .A callPattern (onCellAs .A .call run))
    let u := endCall .A id { s with patterns := s.patterns.set .A { Patterns.atReset with call := pat } }
    (u.queues.a.items == [] && u.patterns.a.call == Pattern.atReset &&
      (handOn { entry := tx, cause := .done, stamp := 130000, awaiting := 0 } none (removeEntry h u)).queues.a.items.map
        (·.body) == [.patternLost lost]) = true := by decide +kernel

/-- R2, R72, R167: a wake target already reached at a stop edge is signalled at that edge. -/
theorem test_wake_target_reached_at_the_stop_edge :
    let s := atLt 1000 { run with csc := { run.csc with calDue := some 900, cal := .idle },
                                  power := { run.power with entry := some { answered := true, batteryChanged := false } } }
    gives (exec .stopEdge s) (fun t => t.power.wakeTarget == none) = true ∧
    gives (exec .stopEdge { s with rsq := { s.rsq with record := .ready, link := .radioDown } })
      (fun t => t.power.wakeTarget == none && t.rsq.waiting == []) = true := by decide +kernel

/-- R35, R77: a gap torn down between two windows brings OFF, and its READ_REPORT that waits is not sent. -/
theorem test_torn_gap_brings_off :
    let s : State := callOf .A callPattern (onCellAs .A .camped run)
    let e := entry .A .meas .measureGap 1 0 36400 1870 3 0 .executing
    let g : GapRun := { handle := e.handle, owner := .A, count := 2, guard := 5200, index := 1, stage := .tuneDue, awaiting := 1 }
    let u : State := planOf [e] { s with rsq := { s.rsq with record := .ready, gap := some g,
                                                             waiting := [.readReport (.gap e.handle 0)] } }
    (teardown .A .absent u).rsq.waiting = [.off .none] ∧ (cutEntry e .cut u).rsq.waiting = [] := by decide +kernel

/-! ### Frames (section 10-7) -/

/-- LEASE_LOST has no detail: bytes 8 to 15 are 0 (sections 10-4, 10-7). -/
theorem test_lease_lost_detail_is_zero :
    (noticeBytes { body := .leaseLost, sub := some .B, stamp := 0x0102030405AB }).drop 1 =
      [2, 1, 2, 3, 4, 5, 0xAB, 0, 0, 0, 0, 0, 0, 0, 0] := by decide

/-- The start of the worked case of R8, (5, 13,000), for 78,000 ticks on channel 2,204 at -7 dBm, byte by byte. -/
theorem test_reserve_body_byte_by_byte :
    (reserveOfBytes (fun _ => some .exchTx) [9, 0, 0, 5, 0, 0x32, 0xC8, 0, 1, 0x30, 0xB0, 0x08, 0x9C, 0xF9]).map
      (fun b => (reserveFn b, reserveFp b, b.length.toNat, b.channel.toNat, b.txLevel.toInt)) =
    some (5, 13000, 78000, 2204, -7) := by decide

/-- Level -171 is 0xFF55 in two's complement; with no report the level is 0 and marked so. -/
theorem test_window_report_detail :
    (windowBytes { handle := ⟨4, 9⟩, kind := .search, reason := none, level := some (-171) }).drop 3 =
      [0, 0xFF, 0x55, 1, 0] ∧
    (windowBytes { handle := ⟨4, 9⟩, kind := .search, reason := none, level := none }).drop 3 = [0, 0, 0, 0, 0] ∧
    fieldBytes 6 0x0102030405AB = [1, 2, 3, 4, 5, 0xAB] := by decide

/-! ### States and operands that meet the statements' hypotheses -/

/-- In DOZE with LT counting: A in the given state on its cell. -/
def at_ (st : CtxState) : State := onCellAs .A st run

/-- The request waits at the port, and LT runs. -/
def waits (q : Port) (r : Request) (s : State) : Bool := pendingTag q r (held q r s) == some 7

/-- In SLUMBER or WAKING with this slumber record. -/
def sleeping (p : PowerState) (r : SlumberRecord) (early : Option WakeCause) : State :=
  { run with power := { run.power with state := p, record := some r, early := early } }

def slept (cycles : Nat) : SlumberRecord := { l0 := 0, w := 79346, s := 100, enable := 34, cycles := cycles, early := none }

/-- One LISTEN in the given state, from 20,000,000 to 20,005,200, the transceiver READY. -/
def oneListen (st : EntryState) (lt : Nat) : State :=
  atLt lt (planOf [entry .B .page .listen 2 20000000 20005200 2204 5 3 st]
    { run with rsq := { run.rsq with record := .ready, settledAt := some 20000000 } })

theorem witness_StepTakesFront : ({ run with pending := [.bringUp, .stopEdge] } : State).pending = [.bringUp, .stopEdge] := rfl

theorem witness_IdleStepIsOneClockPeriod :
    (run.pending = [] ∧ ltRuns run = true ∧ dueRows run = []) ∧
    (State.reset.pending = [] ∧ State.reset.phase ≠ .running ∧ State.reset.power.state = .doze) ∧
    ((sleeping .slumber (slept 32) none).power.state = .slumber ∧ (slept 32).cycles + 1 ≠ (slept 32).enable ∧
      (sleeping .slumber (slept 32) none).power.early = none) ∧
    ((sleeping .waking (slept 98) none).power.state = .waking ∧
      (slept 98).cycles + 1 ≠ lastCycle (slept 98) (sleeping .waking (slept 98) none).csc.settle) ∧
    (let s : State := atLt 1000 { run with power := { run.power with state := .active },
                                            csc := { run.csc with cal := .idle, calDue := some 1000 } }
     s.pending = [] ∧ ltRuns s = true ∧ dueRows s = [.calDue] ∧
     dueRows { s with rsq := { s.rsq with link := .radioDown, probeTime := some 1000 } } = [.probeTime, .calDue]) ∧
    ((sleeping .slumber (slept 5) (some .wake)).power.early = some .wake ∧
      (sleeping .slumber (slept 33) none).power.early = none ∧ (slept 33).cycles + 1 = (slept 33).enable ∧
      (slept 99).cycles + 1 = lastCycle (slept 99) (sleeping .waking (slept 99) none).csc.settle) := by decide +kernel

theorem witness_RequestIsAnsweredOnceWithItsTag :
    requestOf (.activate .A) = some (.A, .activate) ∧ pendingTag .A .activate run = none ∧
    pendingTag .A .activate (held .A .activate State.reset) = none ∧ waits .A .activate run = true := by decide +kernel

theorem witness_RefusedRequestHasNoEffect :
    waits .A .leaveExchange run = true ∧
    gives (exec (.leaveExchange .A) (held .A .leaveExchange run)) (fun t =>
      t.engines.a == .answering { tag := 7, status := .state, body := .empty }) = true := by decide +kernel

theorem witness_SettleFrame :
    let s : State := { run with tbu := { run.tbu with delivered := true } }
    duePatterns s = [] ∧ s.guards = { retune := s.air.gRetune, turn := s.air.gTurn } ∧ toPrepare s = none ∧
    (wantsActive s = true ↔ s.power.state = .active) ∧ s.power.wakeTarget = none ∧ s.rsq.waiting = [] ∧
    s.rsq.recoveryOwed = false ∧ s.tbu.delivered = true := by decide +kernel

/-- The clauses of what it brings: a pattern's turn, raised guards, DOZE to ACTIVE and back, a wake target, a preparation. -/
theorem witness_SettleFrame_brings :
    (let p : Pattern := { active := true, pending := .due 100, lastFrame := some 1, firstFrame := none }
     let s : State := { run with patterns := run.patterns.set .A { Patterns.atReset with meas := p } }
     firstDue (duePatterns s) = some (.A, .meas, 100) ∧ duePatterns (materialiseAll s) = []) ∧
    (let s : State := planOf [entry .A .oneShot .search 0 0 1300 5 0 0 .admitted, entry .B .oneShot .search 0 7300 8600 5 1 0 .admitted]
       { run with air := { run.air with gRetune := 6000 } }
     duePatterns s = [] ∧ s.guards.retune = 5200 ∧ allKeep 6000 s.guards.turn s.plan = true) ∧
    (let e := entry .B .page .listen 2 20000000 20005200 2204 5 3 .admitted
     let ready (lt : Nat) (st : PowerState) : State :=
       atLt lt (planOf [e] { run with rsq := { run.rsq with record := .ready, settledAt := some 19967500 },
                                      power := { run.power with state := st } })
     duePatterns (ready 19954500 .doze) = [] ∧ run.guards = { retune := run.air.gRetune, turn := run.air.gTurn } ∧
     ltRuns (ready 19954500 .doze) = true ∧ toPrepare (ready 19954500 .doze) = none ∧
     activityNeed (ready 19954500 .doze) = some 19980500 ∧ ltReached (19954500 : LT) (19980500 - 26000) = true ∧
     ltReached (19954499 : LT) (19980500 - 26000) = false ∧ toPrepare (ready 19954499 .active) = none ∧
     (∀ f ∈ (ready 19954499 .active).plan, f.state = .admitted) ∧ slumberNeed (ready 0 .doze) = some 19928500 ∧
     ({ run.power with wakeTarget := some 5 } : Power).wakeTarget = some 5 ∧ run.rsq.record = .down ∧
     (let s := ready 19993500 .active
      ltReached s.tbu.lt (19980500 - 26000) = true ∧ s.power.wakeTarget = none ∧ (∀ f ∈ s.plan, f.state ≠ .preparing) ∧
      gapBlocks s = false ∧ s.plan.find? (fun f => f.state == .admitted) = some e ∧
      (∀ f ∈ s.plan, f.handle = e.handle → f = e) ∧ ltReached s.tbu.lt (e.start - 6500) = true ∧
      ltReached s.tbu.lt e.start = false ∧ s.rsq.link = .up ∧ ltReached e.start 19967500 = true)) := by decide +kernel

/-- The clauses of the sending: nothing free, a recovery owed, each rank in its turn, an ON behind its TUNE, the word. -/
theorem witness_CommandsAreSentInOrder :
    let at_ (r : Rsq) : State := { run with rsq := r }
    let ready : Rsq := { run.rsq with record := .ready, settledAt := some 7 }
    let h : Handle := { slot := 5, gen := 3 }
    let tune : Cmd := .tune (.entry h) 5 .rx none none
    (ltRuns run = true ∧ run.rsq.inFlight = none ∧ instantDue run = false ∧ ltRuns State.reset = false ∧ run.rsq.link = .up) ∧
    (let s := at_ { ready with recoveryOwed := true, waiting := [.off .none] }
     instantDue s = false ∧ s.rsq.recoveryOwed = true ∧ (dispatch s).rsq.inFlight = some (.off .recovery, 0) ∧
     (dispatch s).rsq.waiting = [.off .none]) ∧
    ((dispatch (at_ { ready with waiting := [.probe, tune, .on (.entry h), .readReport (.ended h)] })).rsq.inFlight =
        some (.readReport (.ended h), 0) ∧
      (dispatch (at_ { ready with waiting := [tune, .on (.entry h)] })).rsq.inFlight = some (tune, 0) ∧
      (dispatch (at_ { ready with waiting := [.on (.entry h), .off .none] })).rsq.inFlight = some (.off .none, 0)) ∧
    ((dispatch (at_ { ready with waiting := [.powerUp false false, .standby] })).rsq.inFlight = some (.standby, 0) ∧
      (dispatch (at_ { ready with record := .standby, waiting := [.powerUp false true] })).rsq.settledAt = some 13000 ∧
      (dispatch (at_ { run.rsq with waiting := [.powerUp false true] })).rsq.settledAt = some 52000 ∧
      (dispatch (at_ { ready with waiting := [.powerDown] })).rsq.settledAt = none ∧
      (dispatch (at_ { ready with link := .radioDown, waiting := [.probe] })).rsq.probeTime = some 2080000) ∧
    (dispatch (at_ { ready with record := .standby })).rsq.inFlight = some (.trim 4096, 0) ∧ run.tbu.delivered = false ∧
    instantDue (oneListen .preparing 20000000) = true := by decide +kernel

/-- A lawful state in a switched handover of a call, one notice short of a full queue, whose step is a HANDOVER_CONFIRM. -/
def lawful : State :=
  let n : Notice := { body := .leaseLost, sub := some .A, stamp := 0 }
  let s := held .A .handoverConfirm caseConfirm
  { s with pending := [.handoverConfirm .A],
           queues := s.queues.set .A { items := List.replicate 16 n, overflow := false } }

theorem witness_QueuesStayBounded : queuesBounded lawful = true ∧ gives (step lawful) (fun t => t.queues.a.overflow) = true := by
  decide +kernel
theorem witness_BanksStayLawful : allBanksOk lawful = true ∧ gives (step lawful) (fun t => t.cxm.a.state == .call) = true := by
  decide +kernel
theorem witness_CreditStaysLawful : creditOk lawful = true ∧ gives (step lawful) (fun t => t.cxm.a.state == .call) = true := by
  decide +kernel
theorem witness_ContextsStayLawful : contextsLawful lawful = true ∧ gives (step lawful) (fun t => t.cxm.a.state == .call) = true := by
  decide +kernel

/-- The newcomer of section 3-4's worked case, its place not yet taken. -/
def newEntry : Entry := entry .B .oneShot .exchRx 3 10150000 10228000 2204 0 0 .admitted

theorem witness_PlanStaysLawful :
    planOk (held .B (.reserve caseReserve) casePlan) = true ∧ orderedFrom 9900000 casePlan.plan ∧
    (newEntry.start - 9900000).toNat < 2 ^ 47 ∧
    (match admitEntries false [newEntry] casePlan with
     | .admitted hs _ => hs == [{ slot := 0, gen := 11 }]
     | _ => false) = true := by
  refine ⟨by decide +kernel, ⟨by decide +kernel, by decide +kernel⟩, by decide +kernel, by decide +kernel⟩

theorem witness_RingsStayLawful :
    ringsOk lawful = true ∧ gives (step lawful) (fun t => t.msu.a.ring.length == 1) = true ∧
    ringsOk (ringOf .A ((List.range 15).map (fun i => neighbour i i none 0)) lawful) = true := by decide +kernel

theorem witness_ActivateAndCamp :
    let b : CampBody := { tag := 1023, channel := 4095, fn := 4095, lt := BitVec.ofInt 48 (-259999) }
    let c : CampBody := { b with lt := 260000 }
    waits .A .activate run = true ∧ run.cxm.a.state = .absent ∧
    waits .A (.camp b) (ctxOf .A .searching run) = true ∧ (ctxOf .A .searching run).cxm.a.state = .searching ∧
    (run.tbu.lt - b.lt).toNat < 260000 ∧
    ¬ ((c.lt - run.tbu.lt).toNat < 260000 ∨ (run.tbu.lt - c.lt).toNat < 260000) := by decide +kernel

/-- A gap from 0 to 36,400 with two windows, its first one in the given stage. -/
def oneGap (stage : GapStage) (lt : Nat) : State :=
  let g : GapRun := { handle := { slot := 3, gen := 0 }, owner := .A, count := 2, guard := 5200, index := 0, stage := stage,
                      awaiting := 0 }
  atLt lt (planOf [entry .A .meas .measureGap 1 0 36400 1870 3 0 .executing]
    { caseGap with rsq := { caseGap.rsq with gap := some g, record := .ready } })

/-- R76: a window that closes at the gap's own local end is closed with OFF and its report read: two reports are to come. -/
theorem test_window_that_closes_at_the_local_end :
    let s := oneGap .opened 36400
    let u : State := { s with rsq := { s.rsq with gap := s.rsq.gap.map (fun g => { g with index := 1, awaiting := 1 }) } }
    gives (exec .entryEnd u) (fun t => t.plan == [] && t.rsq.ended.map (fun w => (w.cause, w.awaiting)) == [(.done, 2)] &&
      t.rsq.inFlight == some (.off (.gap { slot := 3, gen := 0 } 1), 36400)) = true := by decide +kernel

theorem witness_TeardownOfASubscription :
    waits .A .deactivate (at_ .camped) = true ∧ waits .A .loseService (at_ .call) = true ∧
    waits .A .portReset (at_ .handover) = true ∧
    (casePlan.rsq.link = .up ∧ slotsDistinct casePlan.plan = true ∧
      (∃ e ∈ casePlan.plan, e.owner = .A ∧ e.state = .executing ∧ e.kind ≠ .measureGap)) ∧
    ((oneGap .opened 18200).rsq.link = .up ∧ slotsDistinct (oneGap .opened 18200).plan = true ∧
      isReadOf { slot := 3, gen := 0 } (.readReport (.gap { slot := 3, gen := 0 } 1)) = true) := by decide +kernel

theorem witness_ReadContextAndPlan :
    waits .A (.readContext (.val .A)) run = true ∧ waits .P (.readContext (.val .B)) run = true ∧
    waits .P (.readContext .unknown) run = true ∧ (∀ y, (Coded.unknown : Coded Subscription) ≠ .val y) :=
  ⟨by decide +kernel, by decide +kernel, by decide +kernel, fun y => by cases y <;> decide⟩

theorem witness_EnterAndRenewExchange :
    waits .A (.enterExchange (some .callSetup) 50) (at_ .camped) = true ∧
    waits .A (.renewExchange .absent 3000) (at_ .exchange) = true := by decide +kernel

/-- An exchange whose deadline is 1,000. -/
def exchange1000 : State :=
  { at_ .exchange with cxm := (at_ .exchange).cxm.set .A { (at_ .exchange).cxm.a with exchangeDeadline := some 1000 } }

theorem witness_ExchangeEnds :
    waits .A .leaveExchange exchange1000 = true ∧ ltRuns (atLt 1000 exchange1000) = true ∧
    exchange1000.cxm.a.state = .exchange ∧ exchange1000.cxm.a.exchangeDeadline = some 1000 ∧
    ltReached (atLt 1000 exchange1000).tbu.lt 1000 = true := by decide +kernel

theorem witness_LocalTimeAndFrameTime :
    let b : Timebase := { fnRef := 4090, ltRef := 1000000000, slew := none }
    (2048 ≤ (2042 + 4096 - b.fnRef.toNat) % 4096 ∧ (2041 + 4096 - b.fnRef.toNat) % 4096 < 2048) ∧
    (-(2 ^ 28 : Int) < ((999997401 : LT) - b.ltRef).toInt ∧ ((1000260000 : LT) - b.ltRef).toInt < 2 ^ 28) := by
  decide +kernel

theorem witness_AdjustTimingAndTrim :
    waits .A (.adjustTiming (-2601)) (at_ .camped) = true ∧ (at_ .camped).cxm.a.state = .camped ∧
    (at_ .camped).tbu.record.a = some { fnRef := 10, ltRef := 0, slew := none } ∧
    waits .A (.adjustTiming 2600) (at_ .handover) = true ∧ (at_ .handover).cxm.a.state = .handover := by decide +kernel

theorem witness_AdjustTimingAndTrim_trim :
    waits .A (.trim 8192) (at_ .camped) = true ∧ waits .A (.trim 8191) (at_ .camped) = true ∧
    (at_ .camped).ceu.claim = none ∧ (at_ .camped).tbu.prefAnchor = .A ∧ (at_ .camped).cxm.a.state = .camped ∧
    run.cxm.a.state = .absent ∧ run.tbu.refTrim.toNat + 64 < 4161 ∧ ¬ (run.tbu.refTrim.toNat + 64 < 4160) ∧
    4031 + 64 < run.tbu.refTrim.toNat ∧ ¬ (4032 + 64 < run.tbu.refTrim.toNat) := by decide +kernel

theorem witness_ReadTimeReportsTheClocks : waits .B .readTime run = true ∧ waits .P .readTime (at_ .call) = true := by
  decide +kernel

theorem witness_SlotsConflictsAndPriorities :
    (∀ e ∈ casePlan.plan, e.handle ≠ { slot := 4, gen := 8 }) ∧
    (∃ e ∈ casePlan.plan, e.handle = { slot := 4, gen := 9 }) ∧ nextHandle casePlan = some { slot := 0, gen := 11 } := by
  decide +kernel

theorem witness_SlotsConflictsAndPriorities_conflict :
    let e := entry .A .oneShot .search 0 100 200 5 0 0 .admitted
    let f := entry .B .page .listen 2 5400 5500 5 1 0 .admitted
    (e.start ≠ f.start ∧ ltReached f.start e.start = true ∧ ltReached f.start (e.stop + 5200) = true) ∧
    (f.start ≠ e.start ∧ ltReached e.start f.start = false) ∧ e.start = e.start := by decide +kernel

theorem witness_AdmissionAndDisplacement :
    let e := entry .A .oneShot .search 0 6501 8000 5 0 0 .admitted
    let f := entry .B .page .listen 2 9000 9500 7 1 0 .executing
    (ltAfter e.start (run.tbu.lt + 6500) = true ∧ run.plan.length < 48 ∧ nextHandle run = some { slot := 0, gen := 0 }) ∧
    conflicts 5200 1300 e f = true ∧ f.state = .executing ∧ 2 ≤ f.priority ∧ e.origin = .oneShot ∧ e.partner = none := by
  decide +kernel

/-- One entry of A from 100,000 to 200,000 on channel 5, in the plan of the running device. -/
def obstacle (pri : Nat) (st : EntryState) : Entry := entry .A .meas .measureGap pri 100000 200000 5 1 0 st

/-- A newcomer of B that meets it. -/
def meeting (pri start : Nat) : Entry := entry .B .oneShot .exchRx pri start 300000 7 0 0 .admitted

/-- A call frame of A in the plan: CALL_RX from 100,000 to 110,000, CALL_TX from 120,000 to 130,000, credit 1. -/
def callFrame : State :=
  let h : Handle := { slot := 7, gen := 1 }
  let g : Handle := { slot := 8, gen := 1 }
  let pat : Pattern := { active := true, pending := .inPlan [h, g] 100000 none, lastFrame := some 10, firstFrame := none }
  planOf [{ entry .A .call .callRx 3 100000 110000 5 7 1 .admitted with partner := some g },
      { entry .A .call .callTx 3 120000 130000 5 8 1 .preparing with partner := some h }]
    (callOf .A callPattern { run with
      credit := { credit := 1, refill := 0 }
      patterns := run.patterns.set .A { Patterns.atReset with call := pat } })

/-- R56, R62: a call frame given up whose CALL_RX has a loss held tells CALL_YIELD alone. -/
theorem test_yield_tells_no_held_loss :
    let h : Handle := { slot := 8, gen := 1 }
    let lost : LossDetail := { kind := .callRx, frame := { fn := 10, fp := 0 }, reason := .radio }
    let pat : Pattern := { active := true, pending := .inPlan [h] 100000 (some lost), lastFrame := some 10, firstFrame := none }
    let s := planOf [entry .A .call .callTx 3 120000 130000 5 8 1 .admitted]
      { callFrame with patterns := run.patterns.set .A { Patterns.atReset with call := pat } }
    (match admitEntries false [meeting 2 112000] s with
     | .admitted _ t => t.queues.a.items.map (·.body) == [.callYield { fn := 0, fp := 0 }] &&
         (patternOf .A .call t).pending == .due 100000
     | _ => false) = true := by decide +kernel

theorem witness_AdmissionOverObstacles :
    (let at_ (m : Entry) : Bool := ltAfter m.start ((0 : LT) + BitVec.ofNat 48 6500)
     at_ (meeting 3 6500) = false ∧ at_ (meeting 3 6501) = true ∧
     (let s := planOf [obstacle 1 .executing] run
      s.plan.filter (fun e => conflicts s.air.gRetune s.air.gTurn (meeting 2 106500) e) = [obstacle 1 .executing] ∧
      (∀ e ∈ s.plan, e.handle = (obstacle 1 .executing).handle → e = obstacle 1 .executing) ∧
      nextHandle s = some { slot := 0, gen := 0 } ∧
      ltReached ((meeting 2 106500).start - 5200) ((obstacle 1 .executing).start + 1300) = true ∧
      ltReached ((meeting 2 106499).start - 5200) ((obstacle 1 .executing).start + 1300) = false ∧
      nextHandle (cutEntry (obstacle 1 .executing) .cut s) = some { slot := 0, gen := 0 }) ∧
     (let s := planOf [obstacle 1 .preparing] run
      nextHandle (displaceEntry (obstacle 1 .preparing) .priority s) = some { slot := 0, gen := 0 })) ∧
    (let s := planOf [] run
     s.plan.length + 2 ≤ 48 ∧ nextHandle s = some { slot := 0, gen := 0 } ∧
     nextHandle { s with plan := insertByStart { meeting 3 6501 with handle := { slot := 0, gen := 0 } } s.plan } =
       some { slot := 1, gen := 0 }) ∧
    (let s := callFrame
     s.ceu.claim = some .A ∧ slotsDistinct s.plan = true ∧ 1 ≤ s.credit.credit ∧
     (patternOf .A .call s).pending = .inPlan [{ slot := 7, gen := 1 }, { slot := 8, gen := 1 }] 100000 none ∧
     s.plan.map (fun k => conflicts s.air.gRetune s.air.gTurn (meeting 2 112000) k) = [true, true] ∧
     s.plan.map (fun k => (k.kind, k.partner.map (·.slot.val))) = [(.callRx, some 8), (.callTx, some 7)] ∧
     (match admitEntries false [meeting 2 112000] s with
      | .admitted _ t => t.plan.map (·.kind) == [.exchRx] && t.credit.credit == 0 && t.queues.a.items.length == 1
      | _ => false) = true) ∧
    (let s : State := planOf [meeting 2 200000] { callFrame with plan := [] }
     let ms := callFrame.plan.map (fun e => { e with start := e.start + 100000, stop := e.stop + 100000 })
     newcomerStart ms = some 200000 ∧ (∀ k ∈ ms, k.owner = .A ∧ k.origin = .call) ∧ slotsDistinct s.plan = true ∧
     (∃ k ∈ ms, conflicts s.air.gRetune s.air.gTurn k (meeting 2 200000) = true) ∧ (meeting 2 200000).kind = .exchRx) := by
  decide +kernel

/-- A SEARCH from an LT start. -/
def searchBody (start length : Nat) : ReserveBody :=
  { kind := some .search, form := 1, start := BitVec.ofNat 48 start, length := BitVec.ofNat 24 length, channel := 4095,
    txLevel := 0 }

theorem witness_ReserveTestsInOrder :
    waits .A (.reserve (searchBody 6501 1300)) (ctxOf .A .searching run) = true ∧
    (searchBody 6501 1300).kind ≠ some .exchRx ∧ ({ searchBody 0 0 with kind := some .sync } : ReserveBody).kind ≠ some .search ∧
    (searchBody 0 0).form = 1 ∧ ({ searchBody 0 0 with form := 0 } : ReserveBody).form = 0 ∧
    ({ searchBody 0 0 with form := 2 } : ReserveBody).form ≠ 0 ∧
    4095 < (0x100000000000 : BitVec 48).toNat / 2 ^ 32 ∧ (0x0FFF03F79F00 : BitVec 48).toNat / 2 ^ 32 ≤ 4095 ∧
    (0x0FFF03F79F00 : BitVec 48).toNat / 2 ^ 8 % 2 ^ 24 < 260000 ∧ 260000 ≤ (0x0FFF03F7A000 : BitVec 48).toNat / 2 ^ 8 % 2 ^ 24 := by
  decide +kernel

theorem witness_ReserveTestsInOrder_free_time :
    (let s := ctxOf .A .searching run
     let b := searchBody 266240000 520000
     waits .A (.reserve b) s = true ∧ b.kind = some .search ∧ s.cxm.a.state = .searching ∧ s.csc.thrift = false ∧
     b.length.toNat ≤ 520000 ∧ startTest b none s.tbu.lt = .at 266240000 none ∧ oneShotCount .A s < 20 ∧
     s.plan.length < 48 ∧ nextHandle s = some { slot := 0, gen := 0 } ∧ s.plan = []) ∧
    (let s := at_ .exchange
     let b : ReserveBody := { caseReserve with kind := some .exchTx, form := 0, start := 0x000A00196500, txLevel := 25 }
     waits .A (.reserve b) s = true ∧ s.cxm.a.state = .exchange ∧
     startTest b (s.tbu.record.get .A) s.tbu.lt = .at 6501 (some { fn := 10, fp := 6501 }) ∧
     nextHandle s = some { slot := 0, gen := 0 } ∧ s.plan = []) := by
  decide +kernel

theorem witness_CancelEndsTheOneShot :
    waits .A (.cancel 48 0) casePlan = true ∧ waits .A (.cancel 47 9) casePlan = true ∧
    (∀ e ∈ casePlan.plan, ¬ (e.handle.slot.val = (47 : BitVec 8).toNat ∧ e.handle.gen = 9)) ∧
    (casePlan.plan.find? (fun f => f.handle.slot.val == (4 : BitVec 8).toNat && f.handle.gen == 9)).isSome = true := by
  decide +kernel

theorem witness_ReadContextAndPlan_plan :
    waits .P (.readPlan 47) casePlan = true ∧ waits .P (.readPlan 48) casePlan = true := by decide +kernel

def paging : PagingConfig :=
  { cycle := 32, frame := 31, listenFp := 208000, listenLen := 52000, index := 255, tA := 254, tP := 255, readOffset := 1,
    readFp := 13000, readLen := 260000 }

/-- A on its cell with the paging configuration above, a gap each eighth frame, and a call pattern, all three active. -/
def patterned : State :=
  let on : Pattern := { active := true, pending := .none, lastFrame := none, firstFrame := none }
  let s := callOf .A { callPattern with txLevel := 24 } (at_ .call)
  { s with pgu := s.pgu.set .A { s.pgu.a with staged := some paging },
           msu := s.msu.set .A { s.msu.a with config := some { period := 8, fp := 0, length := 13000 } },
           patterns := s.patterns.set .A { Patterns.atReset with page := on, call := on, meas := on } }

theorem witness_MaterialisationAndTurns :
    (patterned.tbu.record.a = some { fnRef := 10, ltRef := 0, slew := none } ∧
      patterned.cxm.a.serving = some { tag := 412, channel := 1870 } ∧ (patternOf .A .page patterned).active = true ∧
      patterned.pgu.a.staged = some paging ∧ (materialise .A .page patterned).plan.map (·.start) = [5668000] ∧
      (materialise .A .meas patterned).plan.map (·.start) = [260000] ∧
      (materialise .A .call patterned).plan.map (·.start) = [540000, 580000]) ∧
    (let m := obstacle 1 .admitted
     let s := planOf [{ obstacle 3 .executing with owner := .B }] run
     (match admitEntries false [m] run with
      | .admitted [_] _ => true
      | _ => false) = true ∧
     (match admitEntries false [m] s with
      | .refused k _ => k == m.kind
      | _ => false) = true) ∧
    (hasConfig .A .page patterned = true ∧ hasConfig .A .page run = false ∧ (patternOf .A .page run).active = false ∧
      (∃ e ∈ callFrame.plan, e.handle ∈ [({ slot := 8, gen := 1 } : Handle)] ∧ e.state ≠ .admitted) ∧
      (∀ e ∈ caseSwitch.plan, e.handle ∈ [({ slot := 2, gen := 0 } : Handle), { slot := 3, gen := 0 }] → e.state = .admitted) ∧
      (patternOf .A .call caseSwitch).active = true ∧
      (patternOf .A .page (holdLost .A .page [obstacle 2 .admitted] run)).pending = .lost 100000 200000) ∧
    (let rx := entry .A .call .callRx 3 100000 110000 5 0 0 .admitted
     let tx := entry .A .call .callTx 3 120000 130000 5 0 0 .admitted
     let s := callOf .A callPattern { run with credit := { credit := 1, refill := 0 } }
     callPattern.rxFp + callPattern.rxLen + 25000 = callPattern.txFp ∧
     (match admitEntries false [rx, tx] s with
      | .admitted [_, _] _ => true
      | _ => false) = true ∧
     (match admitEntries false [rx, tx] (planOf [obstacle 3 .executing] s) with
      | .refused k _ => k == .callRx
      | _ => false) = true ∧
     (match admitEntries false [rx, tx] (planOf [meeting 2 90000] s) with
      | .yielded _ => true
      | _ => false) = true) ∧
    firstDue [(.A, .page, 7), (.A, .meas, 5), (.B, .page, 5)] = some (.A, .meas, 5) := by
  decide +kernel

theorem witness_ThriftAndGuards :
    (let s : State := { casePlan with csc := { casePlan.csc with thriftFlag := true } }
     s.csc.thrift = false ∧ slotsDistinct s.plan = true ∧
     (∀ e ∈ s.plan, e.kind = .search → e.origin = .oneShot ∧ e.partner = none) ∧
     (∃ e ∈ s.plan, e.kind = .search ∧ e.state = .executing) ∧ s.rsq.link = .up) ∧
    (run.csc.thriftFlag || run.csc.filtered != .normal) = false ∧
    (let s : State := { casePlan with air := { casePlan.air with gRetune := 26000, gTurn := 1301 } }
     s.guards.retune < s.air.gRetune ∧ s.guards.turn < s.air.gTurn ∧
     conflicts 26000 1300 (entry .A .oneShot .search 0 9900000 10160000 300 4 9 .executing)
       (entry .B .meas .measureGap 1 10185999 10252000 2204 6 2 .admitted) = true) := by
  decide +kernel

theorem witness_CandidateFrames :
    (paging.cycle = 32 ∨ paging.cycle = 64 ∨ paging.cycle = 128 ∨ paging.cycle = 256) ∧ paging.frame < paging.cycle := by
  decide

theorem witness_PagingRequests :
    waits .A (.stagePaging paging) run = true ∧ run.cxm.a.state = .absent ∧ (at_ .camped).cxm.a.state ≠ .absent ∧
    pagingOk paging = true ∧ pagingOk { paging with listenFp := 208001 } = false ∧
    pagingOk { paging with readFp := 12999 } = false ∧ pagingOk { paging with tA := 255 } = false := by decide +kernel

theorem witness_PagingRequests_result :
    waits .A (.pageResult (some .text)) run = true ∧ run.cxm.a.state = .absent ∧
    waits .A (.pageResult (some .call)) (at_ .call) = true ∧ (at_ .call).cxm.a.state ≠ .searching := by decide +kernel

theorem witness_ListenDecisionAndMissedPage :
    paging.tA < paging.tP ∧
    (let e := entry .B .page .listen 2 300040000 300045200 1870 5 3 .executing
     casePage.pgu.b.listens.find? (fun q => q.handle == e.handle) = casePage.pgu.b.listens.head? ∧
     casePage.pgu.b.listens.map (fun r => (r.epoch, decisionOf r.config (some 61), decisionOf r.config (some 60))) =
       [(0, .uncertain, .absent)] ∧ casePage.pgu.b.epoch = 0 ∧
     casePage.tbu.record.b = some { fnRef := 1061, ltRef := 300000000, slew := none } ∧
     casePage.cxm.b.serving = some { tag := 412, channel := 1870 } ∧
     convert { fnRef := 1061, ltRef := 300000000, slew := none } { fn := 1063, fp := 30000 } = some 300550000 ∧
     convert { fnRef := 1064, ltRef := 300000000, slew := none } { fn := 1063, fp := 30000 } = none) := by
  decide +kernel

theorem witness_OutcomeOfAWindow :
    ((at_ .camped).cxm.a.serving = some { tag := 412, channel := 1870 } ∧ run.cxm.a.serving = none) ∧
    casePage.rsq.ended.map (·.entry.origin) = [.page] ∧
    (obstacle 1 .executing).origin = .meas ∧ newEntry.origin = .oneShot ∧
    (patternOf .B .page casePage).pending = .inPlan [{ slot := 5, gen := 3 }] 300040000 none ∧
    (patternOf .A .call callFrame).pending = .inPlan [{ slot := 7, gen := 1 }, { slot := 8, gen := 1 }] 100000 none ∧
    (patternOf .A .call run).pending = .none ∧
    (let on : RunOn := { members := [{ slot := 7, gen := 1 }, { slot := 8, gen := 1 }], loss := none }
     (setRunOn .A [on] run).patterns.a.runOn.find? (fun r => r.members.contains { slot := 8, gen := 1 }) = some on ∧
     (patternOf .A .call (setRunOn .A [on] run)).pending = .none ∧
     (patternOf .A .call run) = Pattern.atReset ∧ (∀ r ∈ run.patterns.a.runOn, ({ slot := 8, gen := 1 } : Handle) ∉ r.members)) ∧
    (let s : State := { run with pgu := run.pgu.set .A { run.pgu.a with
        read := some { handle := { slot := 1, gen := 0 }, listenFrame := 3, readFrame := 4 } } }
     s.pgu.a.read.map (·.handle) = some (obstacle 1 .executing).handle) := by
  decide +kernel

theorem witness_NeighbourResultIsTaken :
    (caseGap.selection.a.map (fun r => (r.handle.slot.val, r.void, r.next, r.list.length)) = some (3, false, 0, 2) ∧
      caseGap.msu.a.ring[0]? = some (neighbour 501 1880 (some (-190)) 1)) ∧
    (∀ r, caseGap.selection.b = some r → r.void = true ∨ r.handle ≠ { slot := 3, gen := 0 } ∨ r.next ≠ 0) := by
  refine ⟨by decide +kernel, fun r h => ?_⟩
  have : caseGap.selection.b = none := by decide +kernel
  rw [this] at h
  cases h

theorem witness_CallRequests :
    waits .A (.startCall callPattern 1000) (at_ .exchange) = true ∧ callPatternOk callPattern 25000 = true ∧
    callPatternOk callPattern 25001 = false := by decide +kernel

theorem witness_CallRequests_renew :
    waits .A (.modifyCall callPattern) (at_ .call) = true ∧ waits .A (.renewHold 50) (at_ .call) = true := by decide +kernel

theorem witness_CallEnds :
    let s := callOf .A callPattern (at_ .call)
    let u := atLt 1000 { s with cxm := s.cxm.set .A { s.cxm.a with leaseDeadline := some 1000 } }
    waits .A .endCall s = true ∧ s.cxm.a.state = .call ∧ waits .A .endCall run = true ∧ run.cxm.a.state ≠ .call ∧
    ltRuns u = true ∧ u.cxm.a.leaseDeadline = some 1000 ∧ ltReached u.tbu.lt 1000 = true := by decide +kernel

theorem witness_MeasurementArithmetic :
    (64 ≤ (64 : Nat)) ∧ ((-196 : Int) + (6 : Nat) ≤ filterLevel 2 (some (-190)) (-190)) ∧
    (filterLevel 2 (some (-191)) (-191) < (-196 : Int) + (6 : Nat)) := by decide

def measBody : MeasBody :=
  { period := 128, fp := 259999, length := 156000, k := some 4, hysteresis := some 30, n := some 8, threshold := some 1,
    mask0 := some 15, mask1 := none, mask2 := none, mask3 := some 0 }

theorem witness_SetMeasConfigures :
    waits .A (.setMeas measBody) run = true ∧ run.cxm.a.state = .absent ∧ (at_ .camped).cxm.a.state ≠ .handover ∧
    measOk measBody = true ∧ measClamped measBody = false ∧ measClamped { measBody with threshold := some 0 } = true ∧
    measOk { measBody with length := 156001 } = false := by decide +kernel

def spec (tag ch : Nat) : NeighbourSpec := { tag := tag, channel := ch, cls := 3, offset := some 129999 }

theorem witness_RingRequests :
    waits .A (.setNeighbours [spec 1023 4095]) (at_ .camped) = true ∧ (at_ .camped).cxm.a.state = .camped ∧
    run.cxm.a.state = .absent ∧ neighbourOk (spec 1023 4095) = true ∧ neighbourOk (spec 1024 0) = false ∧
    (at_ .camped).cxm.a.serving = some { tag := (spec 412 1870).tag, channel := (spec 412 1870).channel } ∧
    [spec 1 2, spec 1 3].Pairwise (fun r q => ¬ (r.tag = q.tag ∧ r.channel = q.channel)) ∧
    ¬ [spec 1 2, spec 1 2].Pairwise (fun r q => ¬ (r.tag = q.tag ∧ r.channel = q.channel)) := by decide +kernel

def ring3 : State := ringOf .A [neighbour 1 2 none 0, neighbour 3 4 none 0, neighbour 5 6 none 0] (at_ .camped)

theorem witness_RingRequests_edits :
    waits .A (.addNeighbour (spec 7 8)) ring3 = true ∧ waits .A (.removeNeighbour 5 6) ring3 = true ∧
    waits .A (.setClass 3 4 3) ring3 = true ∧ ring3.cxm.a.state = .camped ∧ ring3.msu.a.ring.length < 16 ∧
    (∃ n, ring3.msu.a.ring[2]? = some n ∧ n.tag = 5 ∧ n.channel = 6) ∧ (∃ n ∈ ring3.msu.a.ring, n.tag = 3 ∧ n.channel = 4) ∧
    ring3.cxm.a.serving = some { tag := 412, channel := 1870 } ∧
    16 ≤ (ringOf .A (List.replicate 16 (neighbour 9 9 none 0)) ring3).msu.a.ring.length :=
  ⟨by decide +kernel, by decide +kernel, by decide +kernel, by decide, by decide, ⟨_, rfl, by decide⟩, by decide, by decide,
    by decide⟩

/-- One bank with a record, in the given states. -/
def banks (a b : BankState) : State :=
  let r : ReportRecord :=
    { tag := 1, channel := 2, raw := -50, level := -50, round := 0, stale := false, candidate := true, above := true }
  let full (st : BankState) : Bank := { state := st, records := [r], overflow := false, candidate := true }
  { at_ .camped with msu := (at_ .camped).msu.set .A { Msu.atReset with bank0 := full a, bank1 := full b } }

theorem witness_ReportBanksAndAcknowledge :
    waits .A .readBank run = true ∧ waits .A .releaseBank (banks .ready .filling) = true ∧ run.cxm.a.state = .absent ∧
    (banks .ready .filling).msu.a.bank0.state = .ready ∧ (banks .filling .ready).msu.a.bank1.state = .ready ∧
    (banks .filling .empty).msu.a.bank0.candidate = true ∧ (banks .empty .filling).msu.a.bank1.candidate = true ∧
    (banks .filling .empty).msu.a.bank1.state = .empty ∧ (banks .filling .ready).msu.a.bank1.state ≠ .empty := by
  decide +kernel

theorem witness_ReportBanksAndAcknowledge_candidate :
    waits .A (.ackCandidate 1 none) ring3 = true ∧ (∃ n ∈ ring3.msu.a.ring, n.tag == 1) ∧ ring3.cxm.a.state = .camped ∧
    waits .A (.ackCandidate 1024 none) ring3 = true ∧ run.cxm.a.state = .absent ∧
    ¬ (∃ n ∈ ring3.msu.a.ring, n.tag == 1023) := by decide +kernel

def reselectBody (fnS : Nat) : ReselectBody := { tag := 1, channel := 2, fnS := fnS, fnNew := 4095 }

theorem witness_ReselectAndHandoverCancel :
    waits .A (.reselect (reselectBody 12)) ring3 = true ∧ ring3.cxm.a.state = .camped ∧ ring3.hou.a.reselect = none ∧
    ring3.tbu.record.a = some { fnRef := 10, ltRef := 0, slew := none } ∧ (12 + 4096 - 10) % 4096 = 2 ∧
    (74 + 4096 - 10) % 4096 = 64 ∧ (75 + 4096 - 10) % 4096 = 65 ∧ run.cxm.a.state ≠ .camped ∧
    reselectOk { reselectBody 12 with fnNew := 4096 } = false := by decide +kernel

theorem witness_HandoverArm :
    let s := caseArm
    waits .A (.handoverArm armBody) s = true ∧ s.cxm.a.state = .call ∧ s.cxm.b.state ≠ .handover ∧
    armOk armBody = true ∧ s.tbu.record.a = some { fnRef := 3000, ltRef := 700000000, slew := none } ∧
    2 ≤ (armBody.fnS + 4096 - 3000) % 4096 ∧ (armBody.fnS + 4096 - 3000) % 4096 ≤ 64 ∧
    targetOffset .A armBody.tag armBody.channel s = some (-40000) ∧
    ltAfter (701520000 : LT) (s.tbu.lt + 6500) = true ∧ s.plan = [] ∧ nextHandle s = some { slot := 0, gen := 0 } ∧
    armOk { armBody with limit := 1 } = false ∧ (3064 + 4096 - 3000) % 4096 = 64 ∧ (3065 + 4096 - 3000) % 4096 = 65 ∧
    targetOffset .A 500 1880 s = none ∧ run.cxm.a.state ≠ .call := by decide +kernel

theorem witness_ReselectAndHandoverCancel_cancel :
    waits .A .handoverCancel caseSwitch = true ∧ caseSwitch.cxm.a.state = .handover ∧
    caseSwitch.hou.a.record.map (·.phase) = some .armed ∧ caseConfirm.hou.a.record.map (·.phase) ≠ some .armed := by
  decide +kernel

theorem witness_HandoverEnds :
    waits .A .handoverConfirm caseConfirm = true ∧ caseConfirm.cxm.a.state = .handover ∧
    caseConfirm.hou.a.record.map (·.phase) = some .switched ∧
    (caseConfirm.hou.a.record.bind (·.held)).map (fun p => (p.1.tag, p.1.channel, p.2)) = some (501, 1880, 0) ∧
    caseConfirm.hou.a.record.map (fun r => (r.tag, r.channel)) = some (501, 1880) ∧
    (caseConfirm.hou.a.record.bind (·.fallbackCell)).isSome = true ∧ caseConfirm.msu.a.ring = [] ∧
    caseSwitch.hou.a.record.map (·.phase) ≠ some .switched := by decide +kernel

theorem witness_HandoverEnds_revert :
    let s := atLt 706760000 caseConfirm
    waits .A .handoverFail caseConfirm = true ∧ s.cxm.a.state = .handover ∧ ltRuns s = true ∧
    s.hou.a.record.map (fun r => (r.phase, r.fallbackCell.isSome, r.confirm)) = some (.switched, true, some 706760000) ∧
    s.tbu.fallback = some (.A, { fnRef := 3008, ltRef := 702080000, slew := none }) ∧
    ltReached s.tbu.lt 706760000 = true ∧ slotsDistinct s.plan = true ∧
    (let u := planOf casePlan.plan s
     slotsDistinct u.plan = true ∧ u.rsq.link = .up ∧
     (∃ e ∈ u.plan, e.owner = .A ∧ e.origin = .oneShot ∧ e.kind ≠ .measureGap ∧ e.state = .executing) ∧
     (∀ e ∈ u.plan, e.owner = .A → e.origin ≠ .pageRead)) ∧
    (s.hou.a.record.map (·.sync.slot)).isSome = true ∧
    (∀ r, s.hou.a.record = some r →
      let e := entry .A .sync .sync 3 706700000 706800000 1880 r.sync.slot r.sync.gen.toNat .executing
      (e.handle == r.sync && e.kind == .sync && e.owner == .A) = true) ∧
    waits .A .handoverFail caseSwitch = true ∧ caseSwitch.hou.a.record.map (·.phase) ≠ some .switched := by decide +kernel

theorem witness_FrameStartAdvances :
    let s := atLt 260000 (at_ .camped)
    (ltRuns s = true ∧ s.tbu.record.a = some { fnRef := 10, ltRef := 0, slew := none } ∧
      ltReached s.tbu.lt 260000 = true ∧ s.ceu.items.a.staged = none ∧ s.hou.a.reselect = none ∧ s.hou.a.record = none) ∧
    (ltRuns (atLt 702340000 caseConfirm) = true ∧ ltReached (atLt 702340000 caseConfirm).tbu.lt 702340000 = true ∧
      caseConfirm.tbu.fallback = some (.A, { fnRef := 3008, ltRef := 702080000, slew := none })) := by decide +kernel

/-- A pending reselection at frame 11, and the frame start of it. -/
def reselect11 : State :=
  let r : ReselectRecord := { tag := 1, channel := 2, offset := 0, fnS := 11, fnNew := 4095 }
  atLt 260000 { ring3 with hou := ring3.hou.set .A { record := none, reselect := some r } }

theorem witness_SlewReachesTheEntries :
    (slewFrame (-2600) { fn := 4095, fp := 259999 } = { fn := 0, fp := 2599 } ∧
      slewFrame 2600 { fn := 0, fp := 2599 } = { fn := 4095, fp := 259999 }) ∧
    (let e (pri : Nat) : Entry :=
       { entry .A .oneShot .search pri 6501 7801 5 0 0 .admitted with frame := some { fn := 10, fp := 6501 } }
     let s (f : Entry) : State := planOf [e 0, f] (at_ .exchange)
     let f := entry .B .oneShot .exchTx 3 7500 9000 5 1 0 .executing
     slotsDistinct (s f).plan = true ∧ (e 0).frame ≠ none ∧ (e 0).partner = none ∧
     ltAfter ((e 0).start + BitVec.ofInt 48 1) (0 + BitVec.ofNat 48 6500) = true ∧
     ltAfter ((e 0).start + BitVec.ofInt 48 (-1)) (0 + BitVec.ofNat 48 6500) = false ∧
     conflicts 5200 1300 { e 0 with start := 6502, stop := 7802 } f = true ∧
     conflicts 5200 1300 { e 0 with start := 6502, stop := 7802 } { f with start := 13002 } = false) := by
  decide +kernel

theorem witness_FrameStartSlewsAndSwitches :
    (ltRuns caseSlew = true ∧ caseSlew.tbu.record.b = some { fnRef := 100, ltRef := 50000000, slew := some (-2600) } ∧
      ltReached caseSlew.tbu.lt 50260000 = true ∧ caseSlew.hou.b.reselect = none ∧ caseSlew.hou.b.record = none) ∧
    (ltRuns reselect11 = true ∧ reselect11.tbu.record.a = some { fnRef := 10, ltRef := 0, slew := none } ∧
      reselect11.hou.a.reselect.map (·.fnS) = some 11) ∧
    (ltRuns caseSwitch = true ∧ caseSwitch.tbu.record.a = some { fnRef := 3005, ltRef := 701300000, slew := none } ∧
      ltReached caseSwitch.tbu.lt 701560000 = true ∧ caseSwitch.hou.a.reselect = none ∧
      caseSwitch.hou.a.record.map (fun r => (r.phase, r.fnS, r.syncFrames)) = some (.armed, 3006, 1)) ∧
    (caseSlew.ceu.items.b.staged = none ∧ reselect11.cxm.a.serving = some { tag := 412, channel := 1870 }) ∧
    (7 + 1 : FN).toNat % 8 = 0 ∧ (8 + 1 : FN).toNat % 8 ≠ 0 ∧
    (reselect11.ceu.items.a.staged = none ∧ caseSwitch.ceu.items.a.staged = none ∧ slotsDistinct reselect11.plan = true ∧
      slotsDistinct caseSwitch.plan = true ∧
      (let s := planOf [entry .A .meas .measureGap 1 263000 290000 5 0 0 .preparing,
                        entry .A .oneShot .search 0 100000 250000 5 1 0 .executing] reselect11
       slotsDistinct s.plan = true ∧ s.rsq.link = .up ∧ (∀ e ∈ s.plan, e.owner = .A → e.origin ≠ .pageRead) ∧
       (∃ e ∈ s.plan, e.owner = .A ∧ e.origin = .oneShot ∧ e.kind ≠ .measureGap ∧ e.state = .executing) ∧
       s.plan.find? (fun e => e.owner == .A && e.kind == .measureGap && e.state == .preparing) =
         some (entry .A .meas .measureGap 1 263000 290000 5 0 0 .preparing)) ∧
      caseSwitch.cxm.a.prior = some .call ∧
      (caseSwitch.msu.a.ring.findIdx? (fun n => n.tag == 501 && n.channel == 1880)).isSome = true) := by decide +kernel

/-- Calibration due at 1,000, IDLE. -/
def calDue1000 : State := atLt 1000 { run with csc := { run.csc with cal := .idle, calDue := some 1000 } }

theorem witness_PowerAndPolicyRequests :
    waits .P .readPower run = true ∧ waits .P .clearBattery run = true ∧ waits .P .startCal run = true ∧
    waits .B .setVote run = true ∧ waits .P .clearVote run = true ∧ ltRuns calDue1000 = true ∧
    calDue1000.csc.calDue = some 1000 ∧ ltReached calDue1000.tbu.lt 1000 = true := by decide +kernel

def policy : PolicyBody :=
  { slumber := .absent, thrift := .val true, anchor := .val .B, c := some 13, creditMax := some 8, refillFrames := some 32,
    gRetune := some 26000, gTurn := none, interval := some 600, settle := some 255 }

theorem witness_PowerAndPolicyRequests_policy :
    waits .P (.setPolicy policy) run = true ∧ policyOk policy = true ∧ policyClamped policy = false ∧
    policyOk { policy with c := some 14 } = false ∧ policyOk { policy with anchor := .unknown } = false ∧
    policyClamped { policy with gRetune := some 26001 } = true ∧ policyClamped { policy with interval := some 0 } = true := by
  decide +kernel

theorem witness_FetchAndApplicationPortReset :
    waits .A .fetchNotices lawful = true ∧ waits .P .portReset run = true ∧ lawful.queues.a.items.length = 16 := by
  decide +kernel

theorem witness_TransactionsAndWake :
    let s : State := { run with engines := run.engines.set .A .receiving, pins := { run.pins with csLow := ⟨true, false, false⟩ } }
    (s.pins.csLow.get .B = false ∧ s.phase ≠ .held) ∧
    (State.reset.pins.csLow.get .A = false ∧ State.reset.phase = .held) ∧
    (s.engines.get .A = .receiving ∧ requestOf (.trim .A 5) = some (.A, .trim 5) ∧ (2 : BitVec 8).toNat = bodyLength (.trim 5) ∧
      (3 : BitVec 8).toNat ≠ bodyLength (.trim 5)) ∧ s.pins.csLow.get .A = true ∧
    requestOf (.readContext .P .absent) = some (.P, .readContext .absent) ∧ bodyLength (.readContext .absent) = 0 := by
  decide +kernel

theorem witness_ResetAndBringUp :
    State.reset.phase = .held ∧ ({ State.reset with phase := .starting } : State).phase = .starting ∧
    State.reset.rsq.link = .up := by decide

theorem witness_EntryInstants :
    let e (st : EntryState) := entry .B .page .listen 2 20000000 20005200 2204 5 3 st
    (ltRuns (oneListen .admitted 19993500) = true ∧ gapBlocks (oneListen .admitted 19993500) = false ∧
      (oneListen .admitted 19993500).plan.find? (fun f => f.state == .admitted) = some (e .admitted) ∧
      ltReached (oneListen .admitted 19993500).tbu.lt ((e .admitted).start - 6500) = true ∧
      ltReached (e .admitted).start 20000000 = true ∧ ltReached (e .admitted).start 20000001 = false ∧
      (∀ f ∈ (oneListen .admitted 19993500).plan, f.handle = (e .admitted).handle → f = e .admitted) ∧
      ltReached (19999999 : LT) (e .admitted).start = false ∧ ltReached (20000000 : LT) (e .admitted).start = true ∧
      ltReached (20005199 : LT) (e .admitted).stop = false ∧
      (∀ f ∈ (oneListen .admitted 20005199).plan, f.state ≠ .executing)) ∧
    ((oneListen .preparing 20000000).plan.find? (fun f => f.state == .preparing) = some (e .preparing) ∧
      ltReached (oneListen .preparing 20000000).tbu.lt (e .preparing).start = true) ∧
    ((oneListen .executing 20005200).plan.find? (fun f => f.state == .executing) = some (e .executing) ∧
      ltReached (oneListen .executing 20005200).tbu.lt (e .executing).stop = true) := by decide +kernel

theorem witness_GapWindows :
    let e (st : EntryState) := entry .A .meas .measureGap 1 0 36400 1870 3 0 st
    (let s := planOf [e .preparing] caseGap
     ltRuns s = true ∧ s.plan.find? (fun f => f.state == .preparing) = some (e .preparing) ∧ s.rsq.link = .up) ∧
    (∀ st, (oneGap st 18200).plan.find? (fun f => f.handle == { slot := 3, gen := 0 }) = some (e .executing)) ∧
    ((oneGap .tuneDue 0).selection.a.map (·.list.length) = some 2 ∧ ltReached 36400 (18200 : LT) = true ∧
      ltReached (oneGap .onDue 5200).tbu.lt 5200 = true ∧ ltReached (oneGap .opened 18200).tbu.lt 18200 = true) ∧
    ((oneGap .tuneDue 36400).plan.find? (fun f => f.state == .executing) = some (e .executing) ∧
      ltReached (oneGap .tuneDue 36400).tbu.lt (e .executing).stop = true ∧
      (let g : GapRun := { handle := (e .executing).handle, owner := .A, count := 2, guard := 5200, index := 2,
                           stage := .tuneDue, awaiting := 1 }
       g.count ≤ g.index ∧ ({ oneGap .tuneDue 36400 with rsq := { run.rsq with gap := some g } } : State).rsq.gap = some g) ∧
      (oneGap .opened 18199).rsq.gap.map (fun g => (g.index, g.count, g.stage)) = some (0, 2, .opened) ∧
      ltReached (18199 : LT) (0 + BitVec.ofNat 48 (0 * (5200 + 13000)) + BitVec.ofNat 48 (5200 + 13000)) = false) ∧
    (let g : GapRun := { handle := (e .executing).handle, owner := .A, count := 2, guard := 5200, index := 1,
                         stage := .opened, awaiting := 1 }
     let s : State := { oneGap .opened 36400 with rsq := { (oneGap .opened 36400).rsq with gap := some g } }
     let closeAt : LT := 0 + BitVec.ofNat 48 (1 * (5200 + 13000)) + BitVec.ofNat 48 (5200 + 13000)
     g.index < g.count ∧ closeAt = 36400 ∧ ltReached (e .executing).stop closeAt = true ∧ ltReached s.tbu.lt closeAt = true ∧
     s.plan.find? (fun f => f.state == .executing) = some (e .executing) ∧
     s.plan.find? (fun f => f.handle == g.handle) = some (e .executing)) := by
  refine ⟨by decide +kernel, fun st => by cases st <;> decide +kernel, by decide +kernel, by decide +kernel, by decide +kernel⟩

theorem witness_LostOccurrencesAndActivity :
    let p : Pattern := { active := true, pending := .lost 100 1000, lastFrame := some 1, firstFrame := none }
    let s := atLt 1000 { run with patterns := run.patterns.set .A { Patterns.atReset with page := p } }
    ltRuns s = true ∧ (patternOf .A .page s).pending = .lost 100 1000 ∧ ltReached s.tbu.lt 1000 = true ∧
    (oneListen .admitted 19954500).power.state = .doze ∧ activityNeed (oneListen .admitted 19954500) = some 19980500 ∧
    ltReached (oneListen .admitted 19954500).tbu.lt (19980500 - 26000) = true := by decide +kernel

/-- The command in flight since 0, at LT. -/
def inFlight (c : Cmd) (lt : Nat) : State := atLt lt { run with rsq := { run.rsq with inFlight := some (c, 0) } }

theorem witness_LinkAcknowledges :
    ltRuns (inFlight .standby 260) = true ∧ ltReached (0 + 260) (inFlight .standby 260).tbu.lt = true ∧
    (inFlight .standby 260).rsq.inFlight = some (.standby, 0) ∧ Cmd.standby.kind = ackedKind .standby ∧
    (let w : EndedWindow := { entry := entry .B .page .listen 2 0 0 2204 5 3 .executing, cause := .done, stamp := 0,
                              awaiting := 0 }
     [w].find? (fun v => v.entry.handle == { slot := 5, gen := 3 }) = some w) ∧
    (oneGap .opened 18200).rsq.gap.map (·.handle) = some { slot := 3, gen := 0 } ∧
    (let s := atLt 2080000 { run with rsq := { run.rsq with link := .radioDown, probeTime := some 2080000 } }
     ltRuns s = true ∧ s.rsq.probeTime = some 2080000 ∧ ltReached s.tbu.lt 2080000 = true ∧
     Cmd.probe ∉ s.rsq.waiting) := by decide +kernel

theorem witness_ReportsAndFaults :
    (ltRuns casePage = true ∧ ltReached (300045280 + 260) casePage.tbu.lt = true ∧
      casePage.rsq.inFlight = some (.readReport (.ended { slot := 5, gen := 3 }), 300045280) ∧
      (casePage.rsq.ended.find? (fun v => v.entry.handle == { slot := 5, gen := 3 })).isSome = true) ∧
    (∀ v ∈ (oneGap .onDue 0).rsq.ended, v.entry.handle ≠ { slot := 3, gen := 0 }) ∧
    (ltRuns (inFlight .probe 260) = true ∧ ltReached (inFlight .probe 260).tbu.lt (0 + 260) = true ∧
      (inFlight .probe 260).rsq.faults < 2 ∧ (inFlight .probe 260).rsq.link = .up) ∧
    ((oneListen .preparing 0).plan.find? (fun f => f.handle == { slot := 5, gen := 3 })).isSome = true ∧
    2 ≤ ({ (inFlight .probe 260).rsq with faults := 2 } : Rsq).faults ∧
    (let s : State := { inFlight .probe 260 with rsq := { (inFlight .probe 260).rsq with link := .radioDown, faults := 3 } }
     ltRuns s = true ∧ s.rsq.inFlight = some (.probe, 0) ∧ s.rsq.link = .radioDown ∧ s.rsq.faults = 3) := by decide +kernel

theorem witness_FaultsByCommand :
    (let s := inFlight (.tune (.gap { slot := 3, gen := 0 } 0) 1880 .rx none none) 260
     ltRuns s = true ∧ ltReached s.tbu.lt (0 + 260) = true ∧ s.rsq.faults < 2 ∧ s.rsq.link = .up ∧
     slotsDistinct s.plan = true ∧ s.rsq.ended = []) ∧
    (oneGap .opened 18200).plan.find? (fun f => f.handle == { slot := 3, gen := 0 }) =
      some (entry .A .meas .measureGap 1 0 36400 1870 3 0 .executing) ∧
    (oneGap .opened 18200).rsq.gap.map (fun g => (g.handle.slot.val, g.stage, g.index, g.count)) = some (3, .opened, 0, 2) ∧
    (casePage.rsq.ended.find? (fun v => v.entry.handle == { slot := 5, gen := 3 })).isSome = true ∧
    (∀ e ∈ casePage.plan, e.handle ≠ { slot := 5, gen := 3 }) ∧
    Cmd.standby.kind = .standby ∧ (∀ e ∈ (planOf [newEntry] run).plan, e.origin = .oneShot ∧ e.partner = none) := by
  decide +kernel

/-- The loss of an aborted entry of each origin, and the third fault on the TUNE of a pattern's entry. -/
theorem witness_FaultsByCommand_losses :
    (Reason.radioDown ≠ .priority ∧ newEntry.partner = none ∧ newEntry.origin = .oneShot ∧
      (entry .B .meas .measureGap 1 0 0 5 1 0 .executing).partner = none ∧
      (entry .A .sync .sync 3 0 0 5 1 0 .preparing).origin = .sync) ∧
    ((entry .B .page .listen 2 0 5200 2204 5 3 .executing).partner = none ∧
      (casePage.pgu.b.listens.find? (fun q => q.handle == { slot := 5, gen := 3 })).isSome = true ∧
      (let q : ReadRecord := { handle := { slot := 6, gen := 0 }, listenFrame := 1, readFrame := 2 }
       ({ casePage.pgu.b with read := some q } : Pgu).read = some q ∧
       (entry .B .pageRead .pageRead 2 0 1300 5 6 0 .preparing).handle = q.handle)) ∧
    (let s := callFrame
     s.plan.map (fun e => (e.origin, e.partner.map (·.slot.val), e.handle.slot.val)) =
       [(.call, some 8, 7), (.call, some 7, 8)] ∧
     (∀ f ∈ run.plan, f.handle ≠ { slot := 0, gen := 0 })) ∧
    (let e := entry .B .meas .measureGap 1 20000000 20005200 2204 5 3 .preparing
     let s : State := planOf [e] { inFlight (.tune (.entry e.handle) 5 .rx none none) 260 with
       rsq := { (inFlight (.tune (.entry e.handle) 5 .rx none none) 260).rsq with faults := 2 } }
     ltRuns s = true ∧ s.rsq.inFlight = some (.tune (.entry e.handle) 5 .rx none none, 0) ∧ 2 ≤ s.rsq.faults ∧
     s.rsq.link = .up ∧ s.plan.find? (fun f => f.handle == e.handle) = some e ∧
     ltReached s.tbu.lt (0 + 260) = true) := by decide +kernel

/-- In DOZE with a valid K and a LISTEN a second away: the tests 1 to 6 hold. -/
def sleepy : State :=
  let s := oneListen .admitted 0
  { s with csc := { s.csc with valid := true, cal := .idle }, rsq := { s.rsq with record := .down } }

theorem witness_SlumberFromEntryToWaking :
    let answered : State := { sleepy with power := { sleepy.power with entry := some { answered := true, batteryChanged := false } } }
    (ltRuns sleepy = true ∧ sleepy.power.state = .doze ∧ sleepy.power.entry = none ∧ slumberTests sleepy = true ∧
      sleepy.rsq.record = .down ∧ sleepy.rsq.waiting = []) ∧
    (slumberTests (oneListen .admitted 0) = false ∧ (oneListen .admitted 0).rsq.record ≠ .down) ∧
    (answered.power.entry = some { answered := true, batteryChanged := false } ∧ slumberTests answered = true) ∧
    (let late := atLt 19935000 answered
     slumberTests late = false ∧ ltReached late.tbu.lt (slumberTarget late) = true ∧ slumberTests { answered with
       votes := answered.votes.set .A true } = false ∧ ltReached answered.tbu.lt (slumberTarget answered) = false) ∧
    ((sleeping .slumber (slept 33) none).power.state = .slumber ∧ (slept 33).cycles + 1 = (slept 33).enable ∧
      (sleeping .slumber (slept 5) (some .wake)).power.early = some .wake) := by decide +kernel

theorem witness_NeedsAreTheEarliestSources :
    (activityNeed run = none ∧ plainNeeds run = [] ∧ firstAdmitted run = none) ∧
    (let s : State := { oneListen .admitted 0 with csc := { run.csc with calDue := some 19990000 } }
     plainNeeds s = [19990000] ∧ (firstAdmitted s).map (·.start) = some 20000000 ∧
     activityNeed s = some 19980500 ∧ slumberNeed s = some 19928500 ∧
     ((19990000 : LT) - 0).toNat < 2 ^ 47 ∧ ((19928500 : LT) - 0).toNat < 2 ^ 47) := by decide +kernel

/-- R164, R168, R170, R171, R198: each command that moves an output moves it somewhere. -/
theorem witness_OutputsFollowTheState :
    let answered : State := { sleepy with power := { sleepy.power with entry := some { answered := true, batteryChanged := false } } }
    (oscEn answered && gives (exec .stopEdge answered) (fun t => !oscEn t && !refOut t)) = true ∧
    gives (exec .enableCycle (sleeping .slumber (slept 33) none)) oscEn = true ∧
    gives (exec .earlyWake (sleeping .slumber (slept 5) (some .wake))) oscEn = true ∧
    gives (exec .slumberEnd (sleeping .waking (slept 99) none)) refOut = true ∧
    gives (exec .firstRefTick { run with phase := .starting }) refOut = true ∧
    gives (exec .resetNAsserted run) (fun t => !refOut t) = true ∧
    (sleeping .slumber (slept 5) none).phase = .running ∧ attn .A (sleeping .slumber (slept 5) none) = false ∧
    (bodyBytes (.reserved { slot := 0, gen := 0 } 0)).length ≤ 96 := by decide +kernel

theorem witness_SlumberEndRestoresLocalTime :
    ((sleeping .waking (slept 99) none).power.state = .waking ∧ (slept 99).cycles + 1 = (slept 99).s ∧
      (sleeping .waking (slept 99) none).csc.changes = [] ∧
      allPassed.filter (isPassed (restoreLt (slept 99) (sleeping .waking (slept 99) none))) = []) ∧ 0 < 812500 ∧ 1023 < 2 ^ 10 ∧
    (let s := atLt 1000 { run with power := { run.power with wakeTarget := some 1000 } }
     ltRuns s = true ∧ s.power.wakeTarget = some 1000 ∧ ltReached s.tbu.lt 1000 = true) := by decide +kernel

theorem witness_CalibrationAndBattery :
    (ltRuns run = true ∧ run.csc.cal = .waiting ∧ ({ run.tbu with delivered := true } : Tbu).delivered = true) ∧
    (203125 * 2 ^ (10 - 8) - 203125 * 2 ^ (10 - 8) / 64 = 799805 ∧ 203125 * 2 ^ (10 - 8) + 203125 * 2 ^ (10 - 8) / 64 = 825195) ∧
    (run.phase ≠ .held ∧ run.csc.filtered = .normal ∧ Battery.low ≠ run.csc.filtered ∧
      (if some Battery.low = some Battery.low then 3 + 1 else 1) = 4 ∧ ltRuns (sleeping .slumber (slept 5) none) = false) := by
  decide +kernel

end Sys2Proof.Tests
end

section
/-! SUPPORT. What the law of the rings reads of one subscription, as two views of a state. The face is all that stays where
no context, timebase, ring or handover changes; the aim is the pointer and the selection, which the start of a gap moves. -/

namespace Sys2Proof.Machine

/-! ### The face of a subscription -/

/-- What the law of the rings reads of a handover record (R147, R154). -/
structure Duty where
  phase : HoPhase
  target : Cell
  fallbackCell : Option Cell
  held : Option (Cell × Nat)
  confirm : Bool

def HandoverRecord.duty (r : HandoverRecord) : Duty :=
  { phase := r.phase, target := { tag := r.tag, channel := r.channel }, fallbackCell := r.fallbackCell.map (·.cell),
    held := r.held.map (fun p => (p.1.cell, p.2)), confirm := r.confirm.isSome }

def ReselectRecord.target (r : ReselectRecord) : Cell := { tag := r.tag, channel := r.channel }

/-- What the laws of contexts and rings read of one subscription, the pointer and the selection apart. `stray` is a filtered
level held off a cell. -/
structure Face where
  side : Side
  stray : Bool
  duty : Option Duty
  reselect : Option Cell
  cells : List Cell

def Base.face (b : Base) (x : Subscription) : Face :=
  { side := b.ctl.side x, stray := (b.cxm.get x).serving.isNone && (b.cxm.get x).level.isSome,
    duty := (b.hou.get x).record.map HandoverRecord.duty, reselect := (b.hou.get x).reselect.map ReselectRecord.target,
    cells := (b.msu.get x).ring.map Neighbour.cell }

def face (x : Subscription) (s : State) : Face := (base s).face x

theorem face_eq (x : Subscription) (s : State) : face x s =
    { side := side x s, stray := (s.cxm.get x).serving.isNone && (s.cxm.get x).level.isSome,
      duty := (s.hou.get x).record.map HandoverRecord.duty, reselect := (s.hou.get x).reselect.map ReselectRecord.target,
      cells := (s.msu.get x).ring.map Neighbour.cell } := by
  cases x <;> rfl

/-- Both faces, and the port engines. -/
structure View where
  a : Face
  b : Face
  engines : PerPort Engine

def Base.view (b : Base) : View := { a := b.face .A, b := b.face .B, engines := b.engines }

theorem face_of_view {s t : State} (h : (base t).view = (base s).view) (x : Subscription) : face x t = face x s := by
  cases x
  · exact congrArg View.a h
  · exact congrArg View.b h

theorem engines_of_view {s t : State} (h : (base t).view = (base s).view) : t.engines = s.engines := congrArg View.engines h

theorem view_ext {s t : State} (h : ∀ x, face x t = face x s) (he : t.engines = s.engines) :
    (base t).view = (base s).view :=
  View.mk.injEq .. ▸ ⟨h .A, h .B, he⟩

/-! ### The laws of a face -/

/-- The records of a ring, with the one held aside. -/
def Face.size (f : Face) : Nat := f.cells.length + if (f.duty.bind (·.held)).isSome then 1 else 0

/-- What a duty says of the serving cell and the ring (R147, R148, R154). -/
structure Duty.Lawful (serving : Option Cell) (cells : List Cell) (d : Duty) : Prop where
  fallback : d.fallbackCell.isSome = (d.phase == .switched)
  confirm : d.confirm = (d.phase == .switched)
  armed : d.phase = .armed → d.held = none ∧ serving ≠ some d.target
  switched : d.phase = .switched → serving = some d.target
  apart : d.phase = .switched → ∀ k, d.fallbackCell = some k → k ≠ d.target ∧ k ∉ cells
  held : d.phase = .switched → ∀ k p, d.held = some (k, p) → k = d.target ∧ p ≤ cells.length

/-- The laws of the contexts and the rings for one subscription, but for the pointer and the selection. -/
structure Face.Lawful (f : Face) : Prop where
  side : f.side.ok = true
  level : f.stray = false
  distinct : f.cells.Nodup
  apart : ∀ k, f.side.ctx.serving = some k → k ∉ f.cells
  offCell : f.side.ctx.serving = none → f.cells = []
  size : f.size ≤ 16
  duty : ∀ d, f.duty = some d → d.Lawful f.side.ctx.serving f.cells
  reselect : ∀ k, f.reselect = some k → f.side.ctx.serving ≠ some k

theorem cellsDistinct_iff (l : List Cell) : cellsDistinct l = true ↔ l.Nodup := by
  induction l with
  | nil => simp [cellsDistinct]
  | cons c l ih => simp [cellsDistinct, ih]

/-! ### The aim of a ring -/

/-- The pointer lies within `n` places, the ring among them, and a selection that is not void names positions of the ring
(R128, R133, R134). -/
def AimedTo (x : Subscription) (n : Nat) (s : State) : Prop :=
  (s.msu.get x).ring.length ≤ n ∧ (s.msu.get x).pointer < max 1 n ∧
  selectionOk (s.msu.get x).ring.length (s.selection.get x) = true

theorem AimedTo.mono {x : Subscription} {n m : Nat} {s : State} (h : AimedTo x n s) (k : n ≤ m) : AimedTo x m s :=
  ⟨h.1.trans k, lt_of_lt_of_le h.2.1 (by omega), h.2.2⟩

theorem heldOk_of_armed {serving : Option Cell} {ring : List Neighbour} {r : HandoverRecord} (h : r.phase = .armed) :
    heldOk serving ring r = true ↔ r.duty.held = none ∧ serving ≠ some r.duty.target := by
  simp [heldOk, h, HandoverRecord.duty]

theorem heldOk_of_switched {serving : Option Cell} {ring : List Neighbour} {r : HandoverRecord} (h : r.phase = .switched) :
    heldOk serving ring r = true ↔ serving = some r.duty.target ∧
      (∀ k, r.duty.fallbackCell = some k → k ≠ r.duty.target ∧ k ∉ ring.map Neighbour.cell) ∧
      ∀ k p, r.duty.held = some (k, p) → k = r.duty.target ∧ p ≤ (ring.map Neighbour.cell).length := by
  simp only [heldOk, h, HandoverRecord.duty, if_true, Bool.and_eq_true, beq_iff_eq, List.length_map, and_assoc]
  refine and_congr_right fun _ => and_congr ?_ ?_
  · cases r.fallbackCell <;> simp
  · cases r.held <;> simp

/-- A handover record has the laws of its duty just where the two tests of the model pass. -/
theorem duty_lawful_iff (serving : Option Cell) (ring : List Neighbour) (r : HandoverRecord) :
    r.duty.Lawful serving (ring.map Neighbour.cell) ↔
      heldOk serving ring r = true ∧ r.fallbackCell.isSome = (r.phase == .switched) ∧
      r.confirm.isSome = (r.phase == .switched) := by
  have hp : r.duty.phase = r.phase := rfl
  have hf : r.duty.fallbackCell.isSome = r.fallbackCell.isSome := by simp [HandoverRecord.duty]
  have hc : r.duty.confirm = r.confirm.isSome := rfl
  cases h : r.phase
  · rw [heldOk_of_armed h]
    refine ⟨fun d => ⟨d.armed (hp.trans h), ?_, ?_⟩, fun ⟨k, f, c⟩ => ⟨?_, ?_, fun _ => k, ?_, ?_, ?_⟩⟩
    · rw [← hf, d.fallback, hp, h]
    · rw [← hc, d.confirm, hp, h]
    all_goals simp_all
  · rw [heldOk_of_switched h]
    refine ⟨fun d => ⟨⟨d.switched (hp.trans h), d.apart (hp.trans h), d.held (hp.trans h)⟩, ?_, ?_⟩,
      fun ⟨⟨k, l, m⟩, f, c⟩ => ⟨?_, ?_, ?_, fun _ => k, fun _ => l, fun _ => m⟩⟩
    · rw [← hf, d.fallback, hp, h]
    · rw [← hc, d.confirm, hp, h]
    all_goals simp_all

/-! ### The law of the rings by faces and aims -/

theorem aimedTo_iff (x : Subscription) (s : State) : AimedTo x (face x s).size s ↔
    (s.msu.get x).pointer < max 1 (face x s).size ∧
      selectionOk (s.msu.get x).ring.length (s.selection.get x) = true := by
  refine ⟨fun h => h.2, fun h => ⟨?_, h⟩⟩
  simp [face_eq, Face.size]

theorem serving_isSome {x : Subscription} {s : State} (h : contextOk x s = true) :
    (s.cxm.get x).serving.isSome = hasCell (s.cxm.get x) := by
  simp only [contextOk, Bool.and_eq_true, beq_iff_eq] at h
  obtain ⟨⟨⟨⟨⟨⟨⟨⟨⟨_, h⟩, _⟩, _⟩, _⟩, _⟩, _⟩, _⟩, _⟩, _⟩ := h
  exact h

theorem contextFieldsOk_iff {x : Subscription} {s : State} (h : contextOk x s = true) : contextFieldsOk x s = true ↔
    (face x s).stray = false ∧ ∀ r, (s.hou.get x).record = some r →
      r.fallbackCell.isSome = (r.phase == .switched) ∧ r.confirm.isSome = (r.phase == .switched) := by
  have hl : (hasCell (s.cxm.get x) || (s.cxm.get x).level.isNone) = !(face x s).stray := by
    rw [face_eq, ← serving_isSome h]
    cases (s.cxm.get x).serving <;> cases (s.cxm.get x).level <;> rfl
  rw [contextFieldsOk, hl]
  cases (s.hou.get x).record <;> simp

theorem size_eq (x : Subscription) (s : State) : (face x s).size =
    (s.msu.get x).ring.length + if ((s.hou.get x).record.bind (·.held)).isSome then 1 else 0 := by
  rw [face_eq]
  cases (s.hou.get x).record <;> simp [Face.size, HandoverRecord.duty]

theorem ringOk_iff (x : Subscription) (s : State) : ringOk x s = true ↔
    (face x s).cells.Nodup ∧ (∀ k, (s.cxm.get x).serving = some k → k ∉ (face x s).cells) ∧
    ((s.cxm.get x).serving = none → (face x s).cells = []) ∧ (face x s).size ≤ 16 ∧ AimedTo x (face x s).size s ∧
    (∀ r, (s.hou.get x).record = some r → heldOk (s.cxm.get x).serving (s.msu.get x).ring r = true) ∧
    ∀ k, (face x s).reselect = some k → (s.cxm.get x).serving ≠ some k := by
  have hc : (face x s).cells = (s.msu.get x).ring.map Neighbour.cell := by rw [face_eq]
  have hr : (face x s).reselect = (s.hou.get x).reselect.map ReselectRecord.target := by rw [face_eq]
  rw [aimedTo_iff, size_eq, hc, hr]
  simp only [ringOk, Bool.and_eq_true, cellsDistinct_iff, decide_eq_true_eq, and_assoc]
  refine and_congr_right fun _ => ?_
  have hm : (match (s.cxm.get x).serving with
      | some k => !((s.msu.get x).ring.map Neighbour.cell).contains k
      | none => (s.msu.get x).ring.isEmpty) = true ↔
      (∀ k, (s.cxm.get x).serving = some k → k ∉ (s.msu.get x).ring.map Neighbour.cell) ∧
        ((s.cxm.get x).serving = none → (s.msu.get x).ring.map Neighbour.cell = []) := by
    cases (s.cxm.get x).serving <;> simp
  refine (and_congr hm (and_congr (a := _ ≤ 16) ?_ (and_congr ?_ (and_congr_right fun _ => and_congr ?_ ?_)))).trans
    and_assoc
  · cases (s.hou.get x).record.bind (·.held) <;> simp
  · cases (s.hou.get x).record.bind (·.held) <;> simp
  · cases (s.hou.get x).record <;> simp
  · cases (s.hou.get x).reselect <;> simp [ReselectRecord.target]

/-- One subscription: the tests of the model pass just where the face and the aim are lawful. -/
theorem lawful_iff (x : Subscription) (s : State) :
    ((face x s).Lawful ∧ AimedTo x (face x s).size s) ↔
      (contextOk x s = true ∧ contextFieldsOk x s = true ∧ ringOk x s = true) := by
  have hside : contextOk x s = (face x s).side.ok := by rw [contextOk_eq, face_eq]
  have hserv : (face x s).side.ctx.serving = (s.cxm.get x).serving := by rw [face_eq, side_eq]; rfl
  have hduty : (∀ d, (face x s).duty = some d → d.Lawful (s.cxm.get x).serving (face x s).cells) ↔
      ∀ r, (s.hou.get x).record = some r → heldOk (s.cxm.get x).serving (s.msu.get x).ring r = true ∧
        r.fallbackCell.isSome = (r.phase == .switched) ∧ r.confirm.isSome = (r.phase == .switched) := by
    rw [face_eq]
    cases (s.hou.get x).record <;> simp [duty_lawful_iff]
  constructor
  · rintro ⟨h, ha⟩
    have hk : contextOk x s = true := hside ▸ h.side
    have hd := hduty.1 (hserv ▸ h.duty)
    exact ⟨hk, (contextFieldsOk_iff hk).2 ⟨h.level, fun r hr => (hd r hr).2⟩, (ringOk_iff x s).2
      ⟨h.distinct, hserv ▸ h.apart, hserv ▸ h.offCell, h.size, ha, fun r hr => (hd r hr).1, hserv ▸ h.reselect⟩⟩
  · rintro ⟨hk, hf, hr⟩
    obtain ⟨hlevel, hfields⟩ := (contextFieldsOk_iff hk).1 hf
    obtain ⟨hdis, hapart, hoff, hsize, haim, hheld, hres⟩ := (ringOk_iff x s).1 hr
    exact ⟨⟨hside ▸ hk, hlevel, hdis, hserv ▸ hapart, hserv ▸ hoff, hsize,
      hserv ▸ hduty.2 fun r hr => ⟨hheld r hr, hfields r hr⟩, hserv ▸ hres⟩, haim⟩

/-- The law of the rings: both faces and aims are lawful, at most one subscription is in HANDOVER, and every waiting request
fits its frame. -/
theorem ringsOk_iff (s : State) : ringsOk s = true ↔
    (∀ x, (face x s).Lawful ∧ AimedTo x (face x s).size s) ∧
    (∀ x, (s.cxm.get x).state = .handover → (s.cxm.get x.other).state ≠ .handover) ∧
    ∀ q, requestFits (s.engines.get q) = true := by
  have hx : (∀ x : Subscription, (s.cxm.get x).state = .handover → (s.cxm.get x.other).state ≠ .handover) ↔
      (!(s.cxm.a.state == .handover && s.cxm.b.state == .handover)) = true := by
    constructor
    · intro h; simpa [PerSub.get, Subscription.other, imp_iff_not_or] using h .A
    · intro h x hx hy
      cases x <;> simp_all [PerSub.get, Subscription.other]
  have hq : (∀ q, requestFits (s.engines.get q) = true) ↔
      requestFits s.engines.a = true ∧ requestFits s.engines.b = true ∧ requestFits s.engines.p = true :=
    ⟨fun h => ⟨h .A, h .B, h .P⟩, fun h q => by cases q; exacts [h.1, h.2.1, h.2.2]⟩
  have hs : (∀ x, (face x s).Lawful ∧ AimedTo x (face x s).size s) ↔
      ((face .A s).Lawful ∧ AimedTo .A (face .A s).size s) ∧ ((face .B s).Lawful ∧ AimedTo .B (face .B s).size s) :=
    ⟨fun h => ⟨h .A, h .B⟩, fun h x => by cases x; exacts [h.1, h.2]⟩
  rw [hx, hq, hs, lawful_iff, lawful_iff]
  simp only [ringsOk, contextsLawful, contextsOk, Bool.and_eq_true]
  tauto

end Sys2Proof.Machine
end

section
/-! SUPPORT. The pointer and the selection of a ring under the operations of the plan, the patterns, the link and the windows:
those that leave both alone, and those that may drop or replace a selection or, at the start of a gap, move the pointer. -/

namespace Sys2Proof.Machine

variable {y : Subscription} {n : Nat}

/-! ### Left alone -/

@[simp] theorem aimed_updTbu (f : Tbu → Tbu) (s : State) : AimedTo y n (updTbu f s) ↔ AimedTo y n s := Iff.rfl
@[simp] theorem aimed_updRsq (f : Rsq → Rsq) (s : State) : AimedTo y n (updRsq f s) ↔ AimedTo y n s := Iff.rfl
@[simp] theorem aimed_updPower (f : Power → Power) (s : State) : AimedTo y n (updPower f s) ↔ AimedTo y n s := Iff.rfl
@[simp] theorem aimed_updCsc (f : Csc → Csc) (s : State) : AimedTo y n (updCsc f s) ↔ AimedTo y n s := Iff.rfl
@[simp] theorem aimed_updCtx (x : Subscription) (f : Context → Context) (s : State) : AimedTo y n (updCtx x f s) ↔ AimedTo y n s := Iff.rfl
@[simp] theorem aimed_updPgu (x : Subscription) (f : Pgu → Pgu) (s : State) : AimedTo y n (updPgu x f s) ↔ AimedTo y n s := Iff.rfl
@[simp] theorem aimed_updCeu (x : Subscription) (f : CeuItems → CeuItems) (s : State) : AimedTo y n (updCeu x f s) ↔ AimedTo y n s := Iff.rfl
@[simp] theorem aimed_updHou (x : Subscription) (f : Hou → Hou) (s : State) : AimedTo y n (updHou x f s) ↔ AimedTo y n s := Iff.rfl
@[simp] theorem aimed_updPattern (x : Subscription) (k : Pat) (f : Pattern → Pattern) (s : State) : AimedTo y n (updPattern x k f s) ↔ AimedTo y n s := Iff.rfl
@[simp] theorem aimed_setRunOn (x : Subscription) (l : List RunOn) (s : State) : AimedTo y n (setRunOn x l s) ↔ AimedTo y n s := Iff.rfl
@[simp] theorem aimed_notifyAt (x : Subscription) (t : LT) (b : NoticeBody) (s : State) : AimedTo y n (notifyAt x t b s) ↔ AimedTo y n s := Iff.rfl
@[simp] theorem aimed_notify (x : Subscription) (b : NoticeBody) (s : State) : AimedTo y n (notify x b s) ↔ AimedTo y n s := Iff.rfl
@[simp] theorem aimed_notifyAppAt (x : Subscription) (t : LT) (b : NoticeBody) (s : State) : AimedTo y n (notifyAppAt x t b s) ↔ AimedTo y n s := Iff.rfl
@[simp] theorem aimed_notifyBare (q : Port) (b : NoticeBody) (s : State) : AimedTo y n (notifyBare q b s) ↔ AimedTo y n s := Iff.rfl
@[simp] theorem aimed_notifyAll (b : NoticeBody) (s : State) : AimedTo y n (notifyAll b s) ↔ AimedTo y n s := Iff.rfl
@[simp] theorem aimed_pageMissed (x : Subscription) (k : Kind) (f : FN) (r : Reason) (s : State) : AimedTo y n (pageMissed x k f r s) ↔ AimedTo y n s := Iff.rfl
@[simp] theorem aimed_demand (c : Cmd) (s : State) : AimedTo y n (demand c s) ↔ AimedTo y n s := by
  unfold demand; (repeat' split) <;> simp
@[simp] theorem aimed_dropReads (h : Handle) (s : State) : AimedTo y n (dropReads h s) ↔ AimedTo y n s := Iff.rfl
@[simp] theorem aimed_addEntry (e : Entry) (s : State) : AimedTo y n (addEntry e s) ↔ AimedTo y n s := Iff.rfl
@[simp] theorem aimed_raiseGen (i : Fin 48) (s : State) : AimedTo y n (raiseGen i s) ↔ AimedTo y n s := Iff.rfl
@[simp] theorem aimed_modifyEntry (h : Handle) (f : Entry → Entry) (s : State) : AimedTo y n (modifyEntry h f s) ↔ AimedTo y n s := Iff.rfl
@[simp] theorem aimed_setEngine (q : Port) (e : Engine) (s : State) : AimedTo y n (setEngine q e s) ↔ AimedTo y n s := Iff.rfl
@[simp] theorem aimed_removeEntry (h : Handle) (s : State) : AimedTo y n (removeEntry h s) ↔ AimedTo y n s := by
  unfold removeEntry; split <;> rfl
@[simp] theorem aimed_tellLoss (x : Subscription) (l : Option LossDetail) (s : State) : AimedTo y n (tellLoss x l s) ↔ AimedTo y n s := by
  unfold tellLoss; (repeat' split) <;> simp
@[simp] theorem aimed_runOnGone (x : Subscription) (h : Handle) (l : Option LossDetail) (s : State) : AimedTo y n (runOnGone x h l s) ↔ AimedTo y n s := by
  unfold runOnGone; dsimp only; (repeat' split) <;> simp
@[simp] theorem aimed_memberGone (x : Subscription) (k : Pat) (h : Handle) (l : Option LossDetail) (s : State) : AimedTo y n (memberGone x k h l s) ↔ AimedTo y n s := by
  unfold memberGone; dsimp only; (repeat' split) <;> simp
@[simp] theorem aimed_letRunOn (x : Subscription) (k : Pat) (s : State) : AimedTo y n (letRunOn x k s) ↔ AimedTo y n s := by
  unfold letRunOn; dsimp only; (repeat' split) <;> simp
@[simp] theorem aimed_dropListen (x : Subscription) (h : Handle) (s : State) : AimedTo y n (dropListen x h s) ↔ AimedTo y n s := Iff.rfl
@[simp] theorem aimed_dropRead (x : Subscription) (h : Handle) (s : State) : AimedTo y n (dropRead x h s) ↔ AimedTo y n s := Iff.rfl
@[simp] theorem aimed_partnerLeaves (e : Entry) (s : State) : AimedTo y n (partnerLeaves e s) ↔ AimedTo y n s := by
  unfold partnerLeaves; (repeat' split) <;> simp
@[simp] theorem aimed_cutOff (e : Entry) (s : State) : AimedTo y n (cutOff e s) ↔ AimedTo y n s := by
  unfold cutOff; (repeat' split) <;> simp
@[simp] theorem aimed_offAtOnce (e : Entry) (s : State) : AimedTo y n (offAtOnce e s) ↔ AimedTo y n s := by
  unfold offAtOnce; (repeat' split) <;> simp
@[simp] theorem aimed_flushEntry (e : Entry) (s : State) : AimedTo y n (flushEntry e s) ↔ AimedTo y n s := by
  unfold flushEntry; (repeat' split) <;> simp
@[simp] theorem aimed_guardTest (s : State) : AimedTo y n (guardTest s) ↔ AimedTo y n s := Iff.rfl
@[simp] theorem aimed_yieldTurn (x : Subscription) (h : Handle) (s : State) : AimedTo y n (yieldTurn x h s) ↔ AimedTo y n s := by
  unfold yieldTurn; (repeat' split) <;> simp
@[simp] theorem aimed_yieldEntry (e : Entry) (s : State) : AimedTo y n (yieldEntry e s) ↔ AimedTo y n s := by
  unfold yieldEntry; (repeat' split) <;> simp
@[simp] theorem aimed_spendCredit (m : Nat) (s : State) : AimedTo y n (spendCredit m s) ↔ AimedTo y n s := Iff.rfl
@[simp] theorem aimed_linkPartners (h g : Handle) (s : State) : AimedTo y n (linkPartners h g s) ↔ AimedTo y n s := Iff.rfl
@[simp] theorem aimed_placeOne (m : Bool) (e : Entry) (s : State) : AimedTo y n (placeOne m e s).2 ↔ AimedTo y n s := by
  unfold placeOne; (repeat' split) <;> simp
@[simp] theorem aimed_place (m : Bool) (es : List Entry) (s : State) : AimedTo y n (place m es s).2 ↔ AimedTo y n s := by
  unfold place; dsimp only; (repeat' split) <;> simp
@[simp] theorem aimed_holdLost (x : Subscription) (k : Pat) (ms : List Entry) (s : State) : AimedTo y n (holdLost x k ms s) ↔ AimedTo y n s := by
  unfold holdLost; (repeat' split) <;> simp
@[simp] theorem aimed_tellOccurrenceLost (x : Subscription) (k : Pat) (d : Kind) (f : FrameTime) (r : Reason) (s : State) : AimedTo y n (tellOccurrenceLost x k d f r s) ↔ AimedTo y n s := by
  unfold tellOccurrenceLost; (repeat' split) <;> simp
@[simp] theorem aimed_writeListen (x : Subscription) (k : Pat) (f : FN) (hs : List Handle) (s : State) : AimedTo y n (writeListen x k f hs s) ↔ AimedTo y n s := by
  unfold writeListen; (repeat' split) <;> simp
@[simp] theorem aimed_applyStagedPaging (x : Subscription) (s : State) : AimedTo y n (applyStagedPaging x s) ↔ AimedTo y n s := by
  unfold applyStagedPaging; (repeat' split) <;> simp
@[simp] theorem aimed_clearPending (x : Subscription) (k : Pat) (s : State) : AimedTo y n (clearPending x k s) ↔ AimedTo y n s := Iff.rfl
@[simp] theorem aimed_dropEnded (h : Handle) (s : State) : AimedTo y n (dropEnded h s) ↔ AimedTo y n s := Iff.rfl
@[simp] theorem aimed_addEnded (w : EndedWindow) (s : State) : AimedTo y n (addEnded w s) ↔ AimedTo y n s := Iff.rfl
@[simp] theorem aimed_setGap (g : Option GapRun) (s : State) : AimedTo y n (setGap g s) ↔ AimedTo y n s := Iff.rfl
@[simp] theorem aimed_tuneWindow (g : GapRun) (s : State) : AimedTo y n (tuneWindow g s) ↔ AimedTo y n s := by
  unfold tuneWindow; (repeat' split) <;> simp
@[simp] theorem aimed_openWindow (g : GapRun) (s : State) : AimedTo y n (openWindow g s) ↔ AimedTo y n s := by simp [openWindow]
@[simp] theorem aimed_closeWindow (g : GapRun) (s : State) : AimedTo y n (closeWindow g s) ↔ AimedTo y n s := by simp [closeWindow]
@[simp] theorem aimed_cancelExecuting (e : Entry) (s : State) : AimedTo y n (cancelExecuting e s) ↔ AimedTo y n s := by simp [cancelExecuting]
@[simp] theorem aimed_lostEnded (x : Subscription) (k : Pat) (t : LT) (s : State) : AimedTo y n (lostEnded x k t s) ↔ AimedTo y n s := Iff.rfl
@[simp] theorem aimed_ageResult (x : Subscription) (s : State) : AimedTo y n (ageResult x s) ↔ AimedTo y n s := Iff.rfl
@[simp] theorem aimed_readDone (e : Entry) (l : Int) (s : State) : AimedTo y n (readDone e l s) ↔ AimedTo y n s := by simp [readDone]
@[simp] theorem aimed_raiseGens (es : List Entry) (s : State) : AimedTo y n (raiseGens es s) ↔ AimedTo y n s := by
  induction es generalizing s with
  | nil => rfl
  | cons e es ih => rw [raiseGens, ih, aimed_raiseGen]
@[simp] theorem aimed_slewLost (ms : List Entry) (k : Kind) (s : State) : AimedTo y n (slewLost ms k s) ↔ AimedTo y n s := by
  unfold slewLost; dsimp only; (repeat' split) <;> simp
@[simp] theorem aimed_choosePower (s : State) : AimedTo y n (choosePower s) ↔ AimedTo y n s := by
  unfold choosePower; (repeat' split) <;> simp
@[simp] theorem aimed_wakeUp (s : State) : AimedTo y n (wakeUp s) ↔ AimedTo y n s := by
  unfold wakeUp; dsimp only; (repeat' split) <;> simp
@[simp] theorem aimed_refreshWake (s : State) : AimedTo y n (refreshWake s) ↔ AimedTo y n s := by
  unfold refreshWake; (repeat' split) <;> simp
@[simp] theorem aimed_send (c : Cmd) (s : State) : AimedTo y n (send c s) ↔ AimedTo y n s := Iff.rfl
@[simp] theorem aimed_answerSlumber (s : State) : AimedTo y n (answerSlumber s) ↔ AimedTo y n s := Iff.rfl
@[simp] theorem aimed_dispatchLoop (m : Nat) (s : State) : AimedTo y n (dispatchLoop m s) ↔ AimedTo y n s := by
  induction m generalizing s with
  | zero => rfl
  | succ m ih => unfold dispatchLoop; dsimp only; (repeat' split) <;> simp [ih]
@[simp] theorem aimed_dispatch (s : State) : AimedTo y n (dispatch s) ↔ AimedTo y n s := by
  unfold dispatch; (repeat' split) <;> simp
@[simp] theorem aimed_oweRecovery (s : State) : AimedTo y n (oweRecovery s) ↔ AimedTo y n s := Iff.rfl
@[simp] theorem aimed_gapReportRead (h : Handle) (s : State) : AimedTo y n (gapReportRead h s) ↔ AimedTo y n s := by
  unfold gapReportRead; (repeat' split) <;> simp
@[simp] theorem aimed_tellCandidate (x : Subscription) (b : Bool) (m : Neighbour) (l : Option Int) (s : State) : AimedTo y n (tellCandidate x b m l s) ↔ AimedTo y n s := by
  unfold tellCandidate; (repeat' split) <;> simp
@[simp] theorem aimed_servingSample (x : Subscription) (ch : Nat) (l : Int) (s : State) : AimedTo y n (servingSample x ch l s) ↔ AimedTo y n s := by
  unfold servingSample; (repeat' split) <;> simp
@[simp] theorem aimed_reanchor (x : Subscription) (f : FN) (t : LT) (s : State) : AimedTo y n (reanchor x f t s) ↔ AimedTo y n s := Iff.rfl
@[simp] theorem aimed_setServing (x : Subscription) (c : Cell) (l : Option Int) (s : State) : AimedTo y n (setServing x c l s) ↔ AimedTo y n s := Iff.rfl
@[simp] theorem aimed_setResume (x : Subscription) (f : Option FN) (s : State) : AimedTo y n (setResume x f s) ↔ AimedTo y n s := Iff.rfl
@[simp] theorem aimed_setFallback (f : Option (Subscription × Timebase)) (s : State) : AimedTo y n (setFallback f s) ↔ AimedTo y n s := Iff.rfl
@[simp] theorem aimed_linkUp (s : State) : AimedTo y n (linkUp s) ↔ AimedTo y n s := Iff.rfl
@[simp] theorem aimed_countRefill (x : Subscription) (s : State) : AimedTo y n (countRefill x s) ↔ AimedTo y n s := by
  unfold countRefill; split <;> rfl
@[simp] theorem aimed_reachResume (x : Subscription) (f : FN) (s : State) : AimedTo y n (reachResume x f s) ↔ AimedTo y n s := by
  unfold reachResume; (repeat' split) <;> simp

/-! ### The selection dropped or made void -/

theorem selectionOk_mono {a b : Nat} (h : a ≤ b) (r : Option Selection) (k : selectionOk a r = true) :
    selectionOk b r = true := by
  cases r with
  | none => rfl
  | some r =>
    simp only [selectionOk, Bool.or_eq_true, Bool.and_eq_true, List.all_eq_true, decide_eq_true_eq] at k ⊢
    exact k.imp_right fun ⟨hl, hs⟩ => ⟨fun t ht => (hl t ht).trans_le h, hs.imp_right fun hp => hp.trans_le h⟩

theorem selectionOk_filter {a : Nat} (p : Selection → Bool) (r : Option Selection) (k : selectionOk a r = true) :
    selectionOk a (r.filter p) = true := by
  cases r with
  | none => rfl
  | some r =>
    cases h : p r
    · simp [Option.filter, h, selectionOk]
    · simpa [Option.filter, h] using k

/-- A selection whose place is taken by a lawful one. -/
theorem aimed_setSelection {x : Subscription} {v : Option Selection} {s : State} (h : AimedTo y n s)
    (k : y = x → selectionOk (s.msu.get y).ring.length v = true) : AimedTo y n (setSelection x v s) := by
  obtain ⟨hr, hp, hsel⟩ := h
  refine ⟨hr, hp, ?_⟩
  rw [setSelection_selection, PerSub.get_set]
  split
  · rename_i hy; exact k hy
  · exact hsel

theorem selectionOk_void {a : Nat} (r : Option Selection) :
    selectionOk a (r.map (fun q => { q with void := true })) = true := by
  cases r <;> simp [selectionOk]

@[simp] theorem aimed_dropSelection (x : Subscription) (h : Handle) (s : State) (k : AimedTo y n s) :
    AimedTo y n (dropSelection x h s) :=
  aimed_setSelection k fun hy => selectionOk_filter _ _ (hy ▸ k.2.2)

@[simp] theorem aimed_voidPrepared (x : Subscription) (s : State) (k : AimedTo y n s) :
    AimedTo y n (voidPrepared x s) := by
  unfold voidPrepared; split
  · exact aimed_setSelection k fun _ => by simp [selectionOk]
  · exact k

theorem aimed_forEntries {f : Entry → State → State} (hf : ∀ e s, AimedTo y n s → AimedTo y n (f e s)) (es : List Entry)
    (s : State) (k : AimedTo y n s) : AimedTo y n (forEntries f es s) := by
  induction es generalizing s with
  | nil => exact k
  | cons e es ih => exact ih _ (hf e s k)

/-! ### Loss of entries -/

@[simp] theorem aimed_tellLost (e : Entry) (w : LossKind) (r : Reason) (s : State) (k : AimedTo y n s) : AimedTo y n (tellLost e w r s) := by
  unfold tellLost; dsimp only; (repeat' split) <;> simp [k]
@[simp] theorem aimed_abortEntry (e : Entry) (r : Reason) (s : State) (k : AimedTo y n s) : AimedTo y n (abortEntry e r s) := by
  simp [abortEntry, k]
@[simp] theorem aimed_displaceEntry (e : Entry) (r : Reason) (s : State) (k : AimedTo y n s) : AimedTo y n (displaceEntry e r s) := by
  simp [displaceEntry, k]
@[simp] theorem aimed_cutEntry (e : Entry) (r : Reason) (s : State) (k : AimedTo y n s) : AimedTo y n (cutEntry e r s) := by
  simp [cutEntry, k]
@[simp] theorem aimed_dropEntry (e : Entry) (s : State) (k : AimedTo y n s) : AimedTo y n (dropEntry e s) := by
  simp [dropEntry, k]
@[simp] theorem aimed_flushSub (x : Subscription) (s : State) (k : AimedTo y n s) : AimedTo y n (flushSub x s) := by
  exact aimed_forEntries (fun e s h => by simpa using h) _ _ k
@[simp] theorem aimed_thriftEntry (e : Entry) (s : State) (k : AimedTo y n s) : AimedTo y n (thriftEntry e s) := by
  unfold thriftEntry; (repeat' split) <;> simp [k]
@[simp] theorem aimed_thriftBegins (s : State) (k : AimedTo y n s) : AimedTo y n (thriftBegins s) := by
  exact aimed_forEntries (fun e s h => by simp [h]) _ _ k
@[simp] theorem aimed_thriftTest (s : State) (k : AimedTo y n s) : AimedTo y n (thriftTest s) := by
  unfold thriftTest; dsimp only; (repeat' split) <;> simp [k]
@[simp] theorem aimed_endExchEntries (x : Subscription) (s : State) (k : AimedTo y n s) : AimedTo y n (endExchEntries x s) := by
  exact aimed_forEntries (fun e s h => by simp [h]) _ _ k
@[simp] theorem aimed_cutBack (ms : List Entry) (e : Entry) (s : State) (k : AimedTo y n s) : AimedTo y n (cutBack ms e s) := by
  unfold cutBack; (repeat' split) <;> simp [k]
@[simp] theorem aimed_defeat (ms : List Entry) (e : Entry) (s : State) (k : AimedTo y n s) : AimedTo y n (defeat ms e s) := by
  unfold defeat; (repeat' split) <;> simp [k]

/-! ### Admission and patterns -/

theorem aimed_admit (m : Bool) (ms : List Entry) (s : State) (k : AimedTo y n s) :
    AimedTo y n ((admitEntries m ms s).after s) := by
  have hy : AimedTo y n (forEntries yieldEntry (affected ms s) s) := aimed_forEntries (fun e s h => by simpa using h) _ _ k
  have hd : AimedTo y n (forEntries (defeat ms) (affected ms s) s) := aimed_forEntries (fun e s h => by simp [h]) _ _ k
  unfold admitEntries; (repeat' split) <;> simp [Verdict.after, k, hy, hd]

theorem aimed_admitted {m : Bool} {ms : List Entry} {s t : State} {hs : List Handle}
    (h : admitEntries m ms s = .admitted hs t) (k : AimedTo y n s) : AimedTo y n t := by
  have := aimed_admit m ms s k; rwa [h] at this
theorem aimed_yielded {m : Bool} {ms : List Entry} {s t : State} (h : admitEntries m ms s = .yielded t)
    (k : AimedTo y n s) : AimedTo y n t := by
  have := aimed_admit m ms s k; rwa [h] at this

@[simp] theorem aimed_offer (x : Subscription) (p : Pat) (f : FN) (ms : List Entry) (s : State) (k : AimedTo y n s) :
    AimedTo y n (offer x p f ms s) := by
  unfold offer; dsimp only; split
  · rename_i h; simpa using aimed_admitted h (by simpa using k)
  · simpa using k
  · rename_i h; simpa using aimed_yielded h (by simpa using k)

@[simp] theorem aimed_offerCall (x : Subscription) (p : CallPattern) (f : FN) (ms : List Entry) (s : State) (k : AimedTo y n s) : AimedTo y n (offerCall x p f ms s) := by
  unfold offerCall; (repeat' split) <;> simp [k]
@[simp] theorem aimed_materialisePage (x : Subscription) (s : State) (k : AimedTo y n s) : AimedTo y n (materialisePage x s) := by
  unfold materialisePage; dsimp only; (repeat' split) <;> simp [k]
@[simp] theorem aimed_materialiseCall (x : Subscription) (s : State) (k : AimedTo y n s) : AimedTo y n (materialiseCall x s) := by
  unfold materialiseCall; (repeat' split) <;> simp [k]
@[simp] theorem aimed_materialiseMeas (x : Subscription) (s : State) (k : AimedTo y n s) : AimedTo y n (materialiseMeas x s) := by
  unfold materialiseMeas; (repeat' split) <;> simp [k]
@[simp] theorem aimed_materialise (x : Subscription) (p : Pat) (s : State) (k : AimedTo y n s) : AimedTo y n (materialise x p s) := by
  unfold materialise; (repeat' split) <;> simp [k]
@[simp] theorem aimed_activate (x : Subscription) (p : Pat) (s : State) (k : AimedTo y n s) : AimedTo y n (Machine.activate x p s) := by
  unfold Machine.activate; split <;> simp [k]
@[simp] theorem aimed_deactivate (x : Subscription) (p : Pat) (s : State) (k : AimedTo y n s) :
    AimedTo y n (deactivate x p s) := by
  simpa [deactivate] using aimed_forEntries (fun e s h => by simp [h]) _ _ k
@[simp] theorem aimed_rematerialise (x : Subscription) (p : Pat) (f : Option FN) (s : State) (k : AimedTo y n s) :
    AimedTo y n (rematerialise x p f s) := by
  have hd : ∀ es, AimedTo y n (forEntries dropEntry es s) := fun es => aimed_forEntries (fun e s h => by simp [h]) es s k
  unfold rematerialise; dsimp only; (repeat' split) <;> simp [k, hd]
@[simp] theorem aimed_materialiseAll (s : State) (k : AimedTo y n s) : AimedTo y n (materialiseAll s) := by
  unfold materialiseAll
  generalize 64 = m
  induction m generalizing s with
  | zero => exact k
  | succ m ih =>
    unfold materialiseDue; split
    · exact ih _ (by simp [k])
    · exact k

/-! ### Windows -/

@[simp] theorem aimed_offerPageRead (x : Subscription) (r : ListenRecord) (s : State) (k : AimedTo y n s) :
    AimedTo y n (offerPageRead x r s) := by
  unfold offerPageRead; dsimp only; (repeat' split)
  · rename_i h; simpa using aimed_admitted h k
  · rename_i h; exact aimed_admitted h k
  · simpa using k
  · rename_i h; exact aimed_yielded h k
  · simpa using k
  · exact k

@[simp] theorem aimed_pageFound (x : Subscription) (r : ListenRecord) (d : Decision) (m : Option Int) (s : State) (k : AimedTo y n s) : AimedTo y n (pageFound x r d m s) := by
  unfold pageFound; dsimp only; (repeat' split) <;> simp [k]
@[simp] theorem aimed_judgeListen (e : Entry) (m : Option Int) (s : State) (k : AimedTo y n s) : AimedTo y n (judgeListen e m s) := by
  unfold judgeListen; dsimp only; (repeat' split) <;> simp [k]
@[simp] theorem aimed_handOn (w : EndedWindow) (r : Option (Int × Int)) (s : State) (k : AimedTo y n s) : AimedTo y n (handOn w r s) := by
  unfold handOn; dsimp only; (repeat' split) <;> simp [k]
@[simp] theorem aimed_failEnded (w : EndedWindow) (s : State) (k : AimedTo y n s) : AimedTo y n (failEnded w s) := by
  unfold failEnded; (repeat' split) <;> simp [k]
theorem aimed_forWindows {f : EndedWindow → State → State} (hf : ∀ w s, AimedTo y n s → AimedTo y n (f w s))
    (ws : List EndedWindow) (s : State) (k : AimedTo y n s) : AimedTo y n (forWindows f ws s) := by
  induction ws generalizing s with
  | nil => exact k
  | cons w ws ih => exact ih _ (hf w s k)

@[simp] theorem aimed_leaveGap (e : Entry) (m : Nat) (s : State) (k : AimedTo y n s) : AimedTo y n (leaveGap e m s) := by
  unfold leaveGap; dsimp only; (repeat' split) <;> simp [k]
@[simp] theorem aimed_endGap (e : Entry) (s : State) (k : AimedTo y n s) : AimedTo y n (endGap e s) := by
  unfold endGap; dsimp only; (repeat' split) <;> simp [k]
@[simp] theorem aimed_endEntry (e : Entry) (s : State) (k : AimedTo y n s) : AimedTo y n (endEntry e s) := by
  unfold endEntry; dsimp only; (repeat' split) <;> simp [k]
@[simp] theorem aimed_endReached (h : Handle) (s : State) (k : AimedTo y n s) : AimedTo y n (endReached h s) := by
  unfold endReached; (repeat' split) <;> simp [k]
@[simp] theorem aimed_endPrevious (s : State) (k : AimedTo y n s) : AimedTo y n (endPrevious s) := by
  unfold endPrevious; (repeat' split) <;> simp [k]
@[simp] theorem aimed_prepare (e : Entry) (s : State) (k : AimedTo y n s) : AimedTo y n (prepare e s) := by
  unfold prepare; dsimp only; (repeat' split) <;> simp [k]
@[simp] theorem aimed_endedReportRead (w : EndedWindow) (s : State) (k : AimedTo y n s) : AimedTo y n (endedReportRead w s) := by
  unfold endedReportRead; (repeat' split) <;> simp [k]
@[simp] theorem aimed_gapConcluded (h : Handle) (s : State) (k : AimedTo y n s) : AimedTo y n (gapConcluded h s) := by
  unfold gapConcluded; (repeat' split) <;> simp [k]
@[simp] theorem aimed_offAcked (t : Target) (s : State) (k : AimedTo y n s) : AimedTo y n (offAcked t s) := by
  unfold offAcked; (repeat' split) <;> simp [k]
@[simp] theorem aimed_commandAcked (c : Cmd) (s : State) (k : AimedTo y n s) : AimedTo y n (commandAcked c s) := by
  unfold commandAcked; (repeat' split) <;> simp [k]
@[simp] theorem aimed_abortRadio (h : Handle) (s : State) (k : AimedTo y n s) : AimedTo y n (abortRadio h s) := by
  unfold abortRadio; (repeat' split) <;> simp [k]
@[simp] theorem aimed_closeEnded (h : Handle) (s : State) (k : AimedTo y n s) : AimedTo y n (closeEnded h s) := by
  unfold closeEnded; (repeat' split) <;> simp [k]
@[simp] theorem aimed_abortGap (h : Handle) (s : State) (k : AimedTo y n s) : AimedTo y n (abortGap h s) := by
  unfold abortGap; (repeat' split) <;> simp [k]
@[simp] theorem aimed_cutGap (h : Handle) (s : State) (k : AimedTo y n s) : AimedTo y n (cutGap h s) := by
  unfold cutGap; (repeat' split) <;> simp [k]
@[simp] theorem aimed_offFaulted (h : Handle) (s : State) (k : AimedTo y n s) : AimedTo y n (offFaulted h s) := by
  unfold offFaulted; (repeat' split) <;> simp [k]
@[simp] theorem aimed_treatFault (c : Cmd) (s : State) (k : AimedTo y n s) : AimedTo y n (treatFault c s) := by
  unfold treatFault; (repeat' split) <;> simp [k]
@[simp] theorem aimed_abortDown (e : Entry) (s : State) (k : AimedTo y n s) : AimedTo y n (abortDown e s) := by
  unfold abortDown; (repeat' split) <;> simp [k]
@[simp] theorem aimed_radioDown (c : CmdKind) (s : State) (k : AimedTo y n s) : AimedTo y n (radioDown c s) := by
  simp only [radioDown, aimed_answerSlumber, aimed_notifyAll]
  refine aimed_forWindows (fun w s h => by simp [h]) _ _ (aimed_forEntries (fun e s h => by simp [h]) _ _ ?_)
  simpa using k
@[simp] theorem aimed_radioUp (s : State) : AimedTo y n (radioUp s) ↔ AimedTo y n s := by simp [radioUp]
@[simp] theorem aimed_reoffer (ms : List Entry) (s : State) (k : AimedTo y n s) : AimedTo y n (reoffer ms s) := by
  unfold reoffer; split
  · rename_i h; exact aimed_admitted h k
  · simpa using k
  · rename_i h; split
    · simpa using aimed_yielded h k
    · exact aimed_yielded h k
@[simp] theorem aimed_applySlew (x : Subscription) (d : Int) (s : State) (k : AimedTo y n s) :
    AimedTo y n (applySlew x d s) := by
  have hr : ∀ (gs : List (List Entry)) (u : State), AimedTo y n u → AimedTo y n (reofferAll gs u) := by
    intro gs
    induction gs with
    | nil => exact fun u h => h
    | cons g gs ih => exact fun u h => ih _ (aimed_reoffer g u h)
  exact hr _ _ k
@[simp] theorem aimed_bringSlew (x : Subscription) (d : Option Int) (s : State) (k : AimedTo y n s) : AimedTo y n (bringSlew x d s) := by
  unfold bringSlew; (repeat' split) <;> simp [k]
@[simp] theorem aimed_dropSync (x : Subscription) (r : HandoverRecord) (s : State) (k : AimedTo y n s) : AimedTo y n (dropSync x r s) := by
  unfold dropSync; (repeat' split) <;> simp [k]
@[simp] theorem aimed_resumePatterns (x : Subscription) (s : State) (k : AimedTo y n s) : AimedTo y n (resumePatterns x s) := by
  unfold resumePatterns; dsimp only; (repeat' split) <;> simp [k]
@[simp] theorem aimed_activateStagedCall (x : Subscription) (f : FN) (s : State) (k : AimedTo y n s) : AimedTo y n (activateStagedCall x f s) := by
  unfold activateStagedCall; dsimp only; (repeat' split) <;> simp [k]
@[simp] theorem aimed_signalFrame (x : Subscription) (s : State) (k : AimedTo y n s) : AimedTo y n (signalFrame x s) := by
  unfold signalFrame; (repeat' split) <;> simp [k]

end Sys2Proof.Machine
end

section
/-! SUPPORT. The operations that move a ring's pointer: the start of a gap (R134) and a neighbour's result (R135). With them,
what follows every event keeps the aim. -/

namespace Sys2Proof.Machine

variable {y : Subscription} {n : Nat}

/-! ### The scan of a gap's start (R133, R134) -/

theorem nextPosition_lt (len pos rnd : Nat) : (nextPosition len pos rnd).1 < max 1 len := by
  unfold nextPosition; split <;> dsimp only <;> omega

/-- The scan takes positions of the ring; it stops where it began or within the ring, and within the ring where it takes any. -/
theorem scan_within (m : MeasSettings) (ring : List Neighbour) (fuel room pos rnd : Nat) :
    (∀ t ∈ (scan m ring fuel room pos rnd).1, t.position < ring.length) ∧
    ((scan m ring fuel room pos rnd).1 = [] ∨ (scan m ring fuel room pos rnd).2.1 < ring.length) ∧
    ((scan m ring fuel room pos rnd).2.1 = pos ∨ (scan m ring fuel room pos rnd).2.1 < max 1 ring.length) := by
  induction fuel generalizing room pos rnd with
  | zero => simp [scan]
  | succ fuel ih =>
    have hnx := nextPosition_lt ring.length pos rnd
    unfold scan
    split
    · simp
    · dsimp only
      split
      · rename_i nb hnb
        have hpos : pos < ring.length := (List.getElem?_eq_some_iff.1 hnb).1
        split
        · obtain ⟨hl, _, hs⟩ := ih (room - 1) (nextPosition ring.length pos rnd).1 (nextPosition ring.length pos rnd).2
          have hstop : (scan m ring fuel (room - 1) (nextPosition ring.length pos rnd).1
              (nextPosition ring.length pos rnd).2).2.1 < ring.length := by omega
          exact ⟨List.forall_mem_cons.2 ⟨hpos, hl⟩, .inr hstop, .inr (hstop.trans_le (le_max_right _ _))⟩
        · obtain ⟨hl, he, hs⟩ := ih room (nextPosition ring.length pos rnd).1 (nextPosition ring.length pos rnd).2
          exact ⟨hl, he, by omega⟩
      · obtain ⟨hl, he, hs⟩ := ih room (nextPosition ring.length pos rnd).1 (nextPosition ring.length pos rnd).2
        exact ⟨hl, he, by omega⟩

/-! ### Pointers moved -/

/-- An update of one measurement state that keeps the ring's length and leaves its pointer within. -/
theorem aimed_updMsu {x : Subscription} {f : Msu → Msu} {s : State} (h : AimedTo y n s)
    (hf : y = x → (f (s.msu.get x)).ring.length = (s.msu.get x).ring.length ∧ (f (s.msu.get x)).pointer < max 1 n) :
    AimedTo y n (updMsu x f s) := by
  by_cases hy : y = x
  · subst hy
    obtain ⟨hl, hp⟩ := hf rfl
    refine ⟨?_, ?_, ?_⟩ <;> simp only [updMsu_msu, PerSub.get_upd_self, updMsu_selection, hl]
    exacts [h.1, hp, h.2.2]
  · simpa [AimedTo, PerSub.get_upd, hy] using h

/-- An update of one measurement state that keeps the ring and its pointer. -/
theorem aimed_updMsu_still {x : Subscription} {f : Msu → Msu} {s : State} (h : AimedTo y n s)
    (hr : (f (s.msu.get x)).ring.length = (s.msu.get x).ring.length)
    (hp : (f (s.msu.get x)).pointer = (s.msu.get x).pointer) : AimedTo y n (updMsu x f s) :=
  aimed_updMsu h fun hy => ⟨hr, by rw [hp]; exact hy ▸ h.2.1⟩

@[simp] theorem aimed_selectNeighbours (e : Entry) (g : Nat) (s : State) (k : AimedTo y n s) :
    AimedTo y n (selectNeighbours e g s) := by
  obtain ⟨hl, he, hs⟩ := scan_within (s.msu.get e.owner).settings (s.msu.get e.owner).ring (s.msu.get e.owner).ring.length
    (gapRoom e.length g) (s.msu.get e.owner).pointer (s.msu.get e.owner).round
  unfold selectNeighbours; dsimp only
  rw [aimed_modifyEntry]
  refine aimed_setSelection (aimed_updMsu k fun hy => ⟨rfl, ?_⟩) fun hy => ?_
  · obtain ⟨hlen, hptr, _⟩ := hy ▸ k
    split
    · rename_i t ts ht
      exact ((hl t (ht ▸ List.mem_cons_self)).trans_le hlen).trans_le (le_max_right _ _)
    · dsimp only; omega
  · simp only [hy, updMsu_msu, PerSub.get_upd_self, selectionOk, Bool.or_eq_true, Bool.and_eq_true, List.all_eq_true,
      decide_eq_true_eq, List.isEmpty_iff]
    exact .inr ⟨hl, he⟩

@[simp] theorem aimed_startGap (e : Entry) (s : State) (k : AimedTo y n s) : AimedTo y n (startGap e s) := by
  unfold startGap; dsimp only; split <;> simp [k]
@[simp] theorem aimed_startEntry (e : Entry) (s : State) (k : AimedTo y n s) : AimedTo y n (startEntry e s) := by
  unfold startEntry; dsimp only; split <;> simp [k]
@[simp] theorem aimed_startReached (h : Handle) (s : State) (k : AimedTo y n s) : AimedTo y n (startReached h s) := by
  have hp : AimedTo y n (endPrevious s) := aimed_endPrevious s k
  unfold startReached; dsimp only; (repeat' split) <;> simp [k, hp]

/-- What follows every event keeps the aim. -/
@[simp] theorem aimed_settle (s : State) (k : AimedTo y n s) : AimedTo y n (settle s) := by
  have hloop : ∀ (m : Nat) (u : State), AimedTo y n u → AimedTo y n (prepareLoop m u) := by
    intro m
    induction m with
    | zero => exact fun u h => h
    | succ m ih =>
      intro u h
      unfold prepareLoop; split
      · exact ih _ (aimed_materialiseAll _ (by simp [h]))
      · exact h
  simpa [settle] using hloop 48 _ (by simp [k])

/-! ### Results (R135) -/

@[simp] theorem aimed_bankSwitch (x : Subscription) (s : State) (k : AimedTo y n s) : AimedTo y n (bankSwitch x s) := by
  have hset : ∀ i b (m : Msu), (setBank i b m).ring = m.ring ∧ (setBank i b m).pointer = m.pointer := by
    intro i b m; unfold setBank; split <;> exact ⟨rfl, rfl⟩
  unfold bankSwitch; dsimp only; split
  · rw [aimed_notify]
    exact aimed_updMsu_still k (by simp [hset]) (by simp [hset])
  · exact k

@[simp] theorem aimed_writeReport (x : Subscription) (r : ReportRecord) (s : State) (k : AimedTo y n s) :
    AimedTo y n (writeReport x r s) := by
  unfold writeReport
  refine aimed_updMsu_still k ?_ ?_ <;> (unfold setBank; split <;> rfl)

@[simp] theorem aimed_setNeighbour (x : Subscription) (i : Nat) (m : Neighbour) (s : State) (k : AimedTo y n s) :
    AimedTo y n (setNeighbour x i m s) := aimed_updMsu_still k (by simp) rfl

/-- A delivered result moves the pointer to a position of the ring (R135). -/
theorem pointerAfter_lt {len i : Nat} {r : Selection} {t : Taken} (h : selectionOk len (some r) = true)
    (hv : r.void = false) (ht : r.list[i]? = some t) : (pointerAfter r).1 < len := by
  simp only [selectionOk, hv, Bool.false_or, Bool.and_eq_true, Bool.or_eq_true, List.all_eq_true, decide_eq_true_eq,
    List.isEmpty_iff] at h
  obtain ⟨hl, hs⟩ := h
  unfold pointerAfter; split
  · rename_i u hu
    exact hl u (List.mem_of_getElem? hu)
  · exact hs.resolve_left fun hn => by simp [hn] at ht

@[simp] theorem bankSwitch_selection (x : Subscription) (s : State) : (bankSwitch x s).selection = s.selection := by
  unfold bankSwitch; dsimp only; split <;> rfl
@[simp] theorem tellCandidate_selection (x : Subscription) (b : Bool) (m : Neighbour) (l : Option Int) (s : State) :
    (tellCandidate x b m l s).selection = s.selection := by
  unfold tellCandidate; split <;> rfl
@[simp] theorem writeReport_selection (x : Subscription) (r : ReportRecord) (s : State) :
    (writeReport x r s).selection = s.selection := rfl
@[simp] theorem setNeighbour_selection (x : Subscription) (i : Nat) (m : Neighbour) (s : State) :
    (setNeighbour x i m s).selection = s.selection := rfl

/-- A result that is used moves the pointer within the ring, and the selection goes on to its next window. -/
theorem aimed_nextWindow {x : Subscription} {i : Nat} {r : Selection} {t : Taken} {s : State} (k : AimedTo y n s)
    (hr : s.selection.get x = some r) (hv : r.void = false) (ht : r.list[i]? = some t) :
    AimedTo y n (setSelection x (some { r with next := r.next + 1 })
      (updMsu x (fun m => { m with pointer := (pointerAfter r).1, round := (pointerAfter r).2 }) s)) := by
  have hsel (hy : y = x) : selectionOk (s.msu.get y).ring.length (some r) = true := by
    subst hy; rw [← hr]; exact k.2.2
  refine aimed_setSelection (aimed_updMsu k fun hy => ⟨rfl, ?_⟩) fun hy => ?_
  · exact ((pointerAfter_lt (hsel hy) hv ht).trans_le k.1).trans_le (le_max_right _ _)
  · rw [updMsu_msu, hy, PerSub.get_upd_self, ← hy]
    exact hsel hy

@[simp] theorem aimed_neighbourResult (x : Subscription) (h : Handle) (i : Nat) (v : Int) (s : State) (k : AimedTo y n s) :
    AimedTo y n (neighbourResult x h i v s) := by
  unfold neighbourResult; dsimp only; (repeat' split)
  · rename_i _ r hr hv _ t ht _ m hm
    exact aimed_nextWindow (aimed_bankSwitch _ _ (aimed_writeReport _ _ _ (by simp [k]))) (by simpa using hr) hv.2.1
      (hv.2.2 ▸ ht)
  all_goals exact k

@[simp] theorem aimed_reportRead (t : Target) (l m : Int) (s : State) (k : AimedTo y n s) :
    AimedTo y n (reportRead t l m s) := by
  unfold reportRead; dsimp only; (repeat' split) <;> simp [k]

end Sys2Proof.Machine
end

section
/-! SUPPORT. The operations on windows, reports, the link and the frame starts leave the faces and the engines alone, so that
the law of the rings follows from their aims. -/

namespace Sys2Proof.Machine

/-- An operation that leaves the view alone and keeps every aim keeps the law of the rings. -/
theorem ringsOk_of_view {s t : State} (h : (base t).view = (base s).view) (ha : ∀ y n, AimedTo y n s → AimedTo y n t)
    (k : ringsOk s = true) : ringsOk t = true := by
  rw [ringsOk_iff] at k ⊢
  obtain ⟨hl, hx, he⟩ := k
  have hc (x : Subscription) : (t.cxm.get x).state = (s.cxm.get x).state := by
    have hf := face_of_view h x
    rw [face_eq, face_eq, side_eq, side_eq] at hf
    exact congrArg (fun f => f.side.ctx.state) hf
  refine ⟨fun x => ?_, fun x => ?_, fun q => ?_⟩
  · rw [face_of_view h x]
    exact ⟨(hl x).1, ha x _ (hl x).2⟩
  · rw [hc, hc]; exact hx x
  · rw [engines_of_view h]; exact he q

/-- The same for an operation that leaves all of `base` alone. -/
theorem ringsOk_of_base {s t : State} (h : base t = base s) (ha : ∀ y n, AimedTo y n s → AimedTo y n t)
    (k : ringsOk s = true) : ringsOk t = true := ringsOk_of_view (congrArg Base.view h) ha k

theorem ringsOk_settle (s : State) (k : ringsOk s = true) : ringsOk (settle s) = true :=
  ringsOk_of_base (base_settle s) (fun _ _ => aimed_settle s) k

/-! ### Operations that leave the view alone -/

@[simp] theorem view_updCsc (f : Csc → Csc) (s : State) : (base (updCsc f s)).view = (base s).view := rfl

theorem view_updMsu {x : Subscription} {f : Msu → Msu} {s : State}
    (h : (f (s.msu.get x)).ring.map Neighbour.cell = (s.msu.get x).ring.map Neighbour.cell) :
    (base (updMsu x f s)).view = (base s).view := by
  refine view_ext (fun y => ?_) rfl
  rw [face_eq, face_eq, side_eq, side_eq]
  by_cases hy : y = x
  · subst hy; simp [h]
  · simp [PerSub.get_upd, hy]

theorem setBank_ring (i : Nat) (b : Bank) (m : Msu) : (setBank i b m).ring = m.ring := by
  unfold setBank; split <;> rfl

@[simp] theorem view_bankSwitch (x : Subscription) (s : State) : (base (bankSwitch x s)).view = (base s).view := by
  unfold bankSwitch; dsimp only; split
  · rw [base_notify]; exact view_updMsu (by simp [setBank_ring])
  · rfl
@[simp] theorem view_writeReport (x : Subscription) (r : ReportRecord) (s : State) :
    (base (writeReport x r s)).view = (base s).view := view_updMsu (by simp [setBank_ring])

/-- A record that is put in the place of one of the same cell leaves the cells of the ring alone. -/
theorem cells_set {ring : List Neighbour} {i : Nat} {m m' : Neighbour} (h : ring[i]? = some m) (hc : m'.cell = m.cell) :
    (ring.set i m').map Neighbour.cell = ring.map Neighbour.cell := by
  rw [List.map_set, hc]
  refine List.ext_getElem? fun j => ?_
  by_cases hj : i = j
  · subst hj
    obtain ⟨hi, rfl⟩ := List.getElem?_eq_some_iff.1 h
    simp [hi]
  · simp [hj]

theorem view_setNeighbour {x : Subscription} {i : Nat} {m m' : Neighbour} {s : State}
    (h : (s.msu.get x).ring[i]? = some m) (hc : m'.cell = m.cell) :
    (base (setNeighbour x i m' s)).view = (base s).view := view_updMsu (cells_set h hc)

@[simp] theorem judge_cell (m : MeasSettings) (v : Option Int) (l : Int) (r : Neighbour) : (judge m v l r).cell = r.cell := by
  unfold judge; dsimp only; split <;> rfl

@[simp] theorem view_neighbourResult (x : Subscription) (h : Handle) (i : Nat) (v : Int) (s : State) :
    (base (neighbourResult x h i v s)).view = (base s).view := by
  unfold neighbourResult; dsimp only; (repeat' split)
  · rename_i hm
    rw [base_setSelection, view_updMsu rfl, view_bankSwitch, view_writeReport, base_tellCandidate]
    exact view_setNeighbour hm (judge_cell _ _ _ _)
  all_goals rfl

@[simp] theorem view_servingSample (x : Subscription) (ch : Nat) (l : Int) (s : State) :
    (base (servingSample x ch l s)).view = (base s).view := by
  unfold servingSample; split
  · rename_i c hc
    split
    · refine view_ext (fun y => ?_) rfl
      rw [face_eq, face_eq, side_eq, side_eq]
      by_cases hy : y = x
      · subst hy; simp [hc, dropLevel]
      · simp [PerSub.get_upd, hy]
    · rfl
  · rfl

@[simp] theorem view_handOn (w : EndedWindow) (rep : Option (Int × Int)) (s : State) :
    (base (handOn w rep s)).view = (base s).view := by
  unfold handOn; dsimp only; (repeat' split) <;> simp
@[simp] theorem view_failEnded (w : EndedWindow) (s : State) : (base (failEnded w s)).view = (base s).view := by
  unfold failEnded; (repeat' split) <;> simp
theorem view_forWindows {f : EndedWindow → State → State} (hf : ∀ w s, (base (f w s)).view = (base s).view)
    (ws : List EndedWindow) (s : State) : (base (forWindows f ws s)).view = (base s).view := by
  induction ws generalizing s with
  | nil => rfl
  | cons w ws ih => rw [forWindows, ih, hf]
@[simp] theorem view_endedReportRead (w : EndedWindow) (s : State) :
    (base (endedReportRead w s)).view = (base s).view := by
  unfold endedReportRead; split <;> simp
@[simp] theorem view_gapConcluded (h : Handle) (s : State) : (base (gapConcluded h s)).view = (base s).view := by
  unfold gapConcluded; split <;> simp
@[simp] theorem view_offAcked (t : Target) (s : State) : (base (offAcked t s)).view = (base s).view := by
  unfold offAcked; (repeat' split) <;> simp
@[simp] theorem view_commandAcked (c : Cmd) (s : State) : (base (commandAcked c s)).view = (base s).view := by
  unfold commandAcked; (repeat' split) <;> simp
@[simp] theorem view_reportRead (t : Target) (l m : Int) (s : State) :
    (base (reportRead t l m s)).view = (base s).view := by
  unfold reportRead; dsimp only; (repeat' split) <;> simp
@[simp] theorem view_closeEnded (h : Handle) (s : State) : (base (closeEnded h s)).view = (base s).view := by
  unfold closeEnded; split <;> simp
@[simp] theorem view_abortGap (h : Handle) (s : State) : (base (abortGap h s)).view = (base s).view := by
  unfold abortGap; split <;> simp
@[simp] theorem view_cutGap (h : Handle) (s : State) : (base (cutGap h s)).view = (base s).view := by
  unfold cutGap; split <;> simp
@[simp] theorem view_offFaulted (h : Handle) (s : State) : (base (offFaulted h s)).view = (base s).view := by
  unfold offFaulted; (repeat' split) <;> simp
@[simp] theorem view_treatFault (c : Cmd) (s : State) : (base (treatFault c s)).view = (base s).view := by
  unfold treatFault; (repeat' split) <;> simp
@[simp] theorem view_radioDown (k : CmdKind) (s : State) : (base (radioDown k s)).view = (base s).view := by
  simp [radioDown, view_forWindows, base_forEntries]
@[simp] theorem view_delivered (v : Bool) (s : State) :
    (base (updTbu (fun b => { b with delivered := v }) s)).view = (base s).view := rfl
@[simp] theorem view_radioUp (s : State) : (base (radioUp s)).view = (base s).view := by simp [radioUp]

/-- An update of call items that keeps whether timer and lease are set. -/
theorem view_updCeu {x : Subscription} {f : CeuItems → CeuItems} {s : State}
    (ht : (f (s.ceu.items.get x)).timer.isSome = (s.ceu.items.get x).timer.isSome)
    (hl : (f (s.ceu.items.get x)).lease.isSome = (s.ceu.items.get x).lease.isSome) :
    (base (updCeu x f s)).view = (base s).view := by
  refine view_ext (fun y => ?_) rfl
  rw [face_eq, face_eq, side_eq, side_eq]
  by_cases hy : y = x
  · subst hy; simp [ht, hl]
  · simp [PerSub.get_upd, hy]

@[simp] theorem view_setResume (x : Subscription) (f : Option FN) (s : State) :
    (base (setResume x f s)).view = (base s).view := view_updCeu rfl rfl
@[simp] theorem view_activateStagedCall (x : Subscription) (fn : FN) (s : State) :
    (base (activateStagedCall x fn s)).view = (base s).view := by
  unfold activateStagedCall; dsimp only; (repeat' split) <;> simp [view_updCeu]
@[simp] theorem view_countRefill (x : Subscription) (s : State) : (base (countRefill x s)).view = (base s).view := by
  unfold countRefill; split <;> rfl
@[simp] theorem view_reachResume (x : Subscription) (fn : FN) (s : State) :
    (base (reachResume x fn s)).view = (base s).view := by
  unfold reachResume; split <;> simp
@[simp] theorem view_signalFrame (x : Subscription) (s : State) : (base (signalFrame x s)).view = (base s).view := by
  unfold signalFrame; split <;> simp
@[simp] theorem view_resumePatterns (x : Subscription) (s : State) :
    (base (resumePatterns x s)).view = (base s).view := by
  unfold resumePatterns; dsimp only; split <;> simp

end Sys2Proof.Machine
end

section
/-! SUPPORT. Changes on the side of one subscription: what has to be shown of its face and its aim for the law of the rings to
stay; and the changes of contexts, timebases and the claim, which leave rings and handover records alone. -/

namespace Sys2Proof.Machine

theorem ring_of_base {s t : State} (h : base t = base s) (x : Subscription) : (t.msu.get x).ring = (s.msu.get x).ring :=
  have hr : (t.msu.get x).still.ring = (s.msu.get x).still.ring := congrArg Msu.ring (still_of_stillAll (msu_of_base h) x)
  hr

/-- What the faces are made of, kept by an operation that leaves `base` alone. -/
theorem kept_of_base {s t : State} (h : base t = base s) :
    t.cxm = s.cxm ∧ t.tbu = s.tbu ∧ t.ceu = s.ceu ∧ t.hou = s.hou ∧ t.engines = s.engines ∧
    ∀ x, (t.msu.get x).ring = (s.msu.get x).ring :=
  ⟨cxm_of_base h, tbu_of_base h, ceu_of_base h, hou_of_base h, engines_of_base h, ring_of_base h⟩

theorem base_updCtx_congr {s t : State} {x : Subscription} {f : Context → Context} (h : base t = base s) :
    base (updCtx x f t) = base (updCtx x f s) := by
  have hu (u : State) : base (updCtx x f u) = { base u with cxm := (base u).cxm.upd x f } := rfl
  rw [hu, hu, h]

theorem base_updCeu_congr {s t : State} {x : Subscription} {f : CeuItems → CeuItems} (h : base t = base s) :
    base (updCeu x f t) = base (updCeu x f s) := by
  have hu (u : State) : base (updCeu x f u) =
    { base u with ceu := { (base u).ceu with items := (base u).ceu.items.upd x f } } := rfl
  rw [hu, hu, h]

theorem base_updHou_congr {s t : State} {x : Subscription} {f : Hou → Hou} (h : base t = base s) :
    base (updHou x f t) = base (updHou x f s) := by
  have hu (u : State) : base (updHou x f u) = { base u with hou := (base u).hou.upd x f } := rfl
  rw [hu, hu, h]

/-! ### One subscription changed -/

theorem lawful_of_ringsOk {s : State} (k : ringsOk s = true) (x : Subscription) : (face x s).Lawful :=
  (((ringsOk_iff s).1 k).1 x).1

theorem aimed_of_ringsOk {s : State} (k : ringsOk s = true) (x : Subscription) : AimedTo x (face x s).size s :=
  (((ringsOk_iff s).1 k).1 x).2

theorem fits_of_ringsOk {s : State} (k : ringsOk s = true) (q : Port) : requestFits (s.engines.get q) = true :=
  ((ringsOk_iff s).1 k).2.2 q

theorem side_of_ringsOk {s : State} (k : ringsOk s = true) (x : Subscription) : (side x s).ok = true := by
  have h := (lawful_of_ringsOk k x).side
  rwa [face_eq] at h

theorem other_not_handover {s : State} (k : ringsOk s = true) {x : Subscription}
    (h : (s.cxm.get x).state = .handover) : (s.cxm.get x.other).state ≠ .handover := ((ringsOk_iff s).1 k).2.1 x h

theorem sub_cases (x y : Subscription) : y = x ∨ y = x.other := by cases x <;> cases y <;> simp [Subscription.other]

theorem other_other (x : Subscription) : x.other.other = x := by cases x <;> rfl

theorem other_ne (x : Subscription) : x.other ≠ x := by cases x <;> decide

/-- A change on the side of x keeps the law of the rings if it leaves the other face and the engines alone, keeps the other
aim, and leaves the face and the aim of x lawful. -/
theorem ringsOk_change {x : Subscription} {s t : State} (k : ringsOk s = true) (ho : face x.other t = face x.other s)
    (he : t.engines = s.engines) (ha : ∀ n, AimedTo x.other n s → AimedTo x.other n t) (hf : (face x t).Lawful)
    (hx : AimedTo x (face x t).size t)
    (hn : (t.cxm.get x).state = .handover → (s.cxm.get x.other).state ≠ .handover) : ringsOk t = true := by
  have hc : (t.cxm.get x.other).state = (s.cxm.get x.other).state := by
    rw [face_eq, face_eq, side_eq, side_eq] at ho
    exact congrArg (fun f => f.side.ctx.state) ho
  rw [ringsOk_iff]
  refine ⟨fun y => ?_, fun y hy => ?_, fun q => he ▸ fits_of_ringsOk k q⟩
  · rcases sub_cases x y with rfl | rfl
    · exact ⟨hf, hx⟩
    · rw [ho]
      exact ⟨lawful_of_ringsOk k _, ha _ (aimed_of_ringsOk k _)⟩
  · rcases sub_cases x y with rfl | rfl
    · rw [hc]; exact hn hy
    · rw [other_other]
      exact fun h => hn h (hc ▸ hy)

/-- A face is lawful where its side is and the rest is that of a lawful one. -/
theorem Face.Lawful.of_side {f g : Face} (h : f.Lawful) (hs : g.side.ok = true)
    (hv : g.side.ctx.serving = f.side.ctx.serving) (hl : g.stray = f.stray) (hd : g.duty = f.duty)
    (hr : g.reselect = f.reselect) (hc : g.cells = f.cells) : g.Lawful := by
  obtain ⟨_, h2, h3, h4, h5, h6, h7, h8⟩ := h
  have hz : g.size = f.size := by simp [Face.size, hd, hc]
  constructor
  · exact hs
  · rw [hl]; exact h2
  · rw [hc]; exact h3
  · rw [hv, hc]; exact h4
  · rw [hv, hc]; exact h5
  · rw [hz]; exact h6
  · rw [hv, hd, hc]; exact h7
  · rw [hv, hr]; exact h8

/-- A change of the context, the timebase, the claim or the call items of x alone: its serving cell and level, the rings and
the handover records stay. -/
theorem ringsOk_of_side {x : Subscription} {s t : State} (k : ringsOk s = true)
    (hc : t.cxm.get x.other = s.cxm.get x.other) (ho : side x.other t = side x.other s) (hh : t.hou = s.hou)
    (he : t.engines = s.engines) (hr : ∀ y, (t.msu.get y).ring = (s.msu.get y).ring)
    (ha : ∀ y n, AimedTo y n s → AimedTo y n t) (hs : (side x t).ok = true)
    (hv : (t.cxm.get x).serving = (s.cxm.get x).serving) (hl : (t.cxm.get x).level = (s.cxm.get x).level)
    (hn : (t.cxm.get x).state = .handover → (s.cxm.get x).state = .handover) : ringsOk t = true := by
  have hlaw := lawful_of_ringsOk k x
  have haim := aimed_of_ringsOk k x
  have hsize : (face x t).size = (face x s).size := by rw [size_eq, size_eq, hh, hr]
  refine ringsOk_change k ?_ he (ha _) ?_ (hsize ▸ ha _ _ haim) fun h => other_not_handover k (hn h)
  · rw [face_eq, face_eq, hc, ho, hh, hr]
  · rw [face_eq] at hlaw ⊢
    refine hlaw.of_side hs ?_ ?_ ?_ ?_ ?_
    · rw [side_eq, side_eq]; exact hv
    · rw [hv, hl]
    · rw [hh]
    · rw [hh]
    · rw [hr]

/-! ### Exchanges and calls -/

section
variable {x : Subscription} {s : State}

/-- Contexts and call items of x changed together. -/
theorem ringsOk_ctx_items {f : Context → Context} {g : CeuItems → CeuItems} (k : ringsOk s = true)
    (hs : (side x (updCeu x g (updCtx x f s))).ok = true)
    (hv : (f (s.cxm.get x)).serving = (s.cxm.get x).serving) (hl : (f (s.cxm.get x)).level = (s.cxm.get x).level)
    (hn : (f (s.cxm.get x)).state = .handover → (s.cxm.get x).state = .handover) :
    ringsOk (updCeu x g (updCtx x f s)) = true := by
  refine ringsOk_of_side (x := x) k (by simp) (by simp [side_eq]) rfl rfl (fun _ => rfl) (fun _ _ h => h) hs ?_ ?_ ?_ <;>
    simpa

theorem ringsOk_ctx {f : Context → Context} (k : ringsOk s = true) (hs : (side x (updCtx x f s)).ok = true)
    (hv : (f (s.cxm.get x)).serving = (s.cxm.get x).serving) (hl : (f (s.cxm.get x)).level = (s.cxm.get x).level)
    (hn : (f (s.cxm.get x)).state = .handover → (s.cxm.get x).state = .handover) :
    ringsOk (updCtx x f s) = true := by
  refine ringsOk_of_side (x := x) k (by simp) (by simp [side_eq]) rfl rfl (fun _ => rfl) (fun _ _ h => h) hs ?_ ?_ ?_ <;>
    simpa

theorem ringsOk_searching (k : ringsOk s = true) (h : (s.cxm.get x).state = .absent) :
    ringsOk (updCtx x (fun c => { c with state := .searching }) s) = true := by
  have hk := side_of_ringsOk k x
  rw [side_eq] at hk
  refine ringsOk_ctx k ?_ rfl rfl nofun
  rw [side_eq]
  simp_all [Side.ok, dropLevel, slewOk]

/-- R25: an exchange is entered from CAMPED. -/
theorem ringsOk_enterExchange {v : Purpose} {n : Nat} {d : LT} (k : ringsOk s = true) (h : (s.cxm.get x).state = .camped)
    (hr : (s.hou.get x).reselect = none) :
    ringsOk (setTimer x (some n)
      (updCtx x (fun c => { c with state := .exchange, purpose := some v, exchangeDeadline := some d }) s)) = true := by
  have hk := side_of_ringsOk k x
  rw [side_eq] at hk
  refine ringsOk_ctx_items k ?_ rfl rfl nofun
  rw [side_eq]
  simp_all [Side.ok, dropLevel]

/-- R105: an exchange is renewed. -/
theorem ringsOk_renewExchange {p : Context → Option Purpose} {n : Nat} {d : LT} (k : ringsOk s = true)
    (h : (s.cxm.get x).state = .exchange) (hp : (s.cxm.get x).purpose.isSome → (p (s.cxm.get x)).isSome) :
    ringsOk (setTimer x (some n)
      (updCtx x (fun c => { c with exchangeDeadline := some d, purpose := p c }) s)) = true := by
  have hk := side_of_ringsOk k x
  rw [side_eq] at hk
  refine ringsOk_ctx_items k ?_ rfl rfl (fun h => h)
  rw [side_eq]
  simp_all [Side.ok, dropLevel]

/-- R26, R106: an exchange ends. -/
theorem ringsOk_leaveContext (k : ringsOk s = true) (h : (s.cxm.get x).state = .exchange) :
    ringsOk (leaveContext x s) = true := by
  have hk := side_of_ringsOk k x
  rw [side_eq] at hk
  refine ringsOk_ctx_items k ?_ rfl rfl nofun
  rw [side_eq]
  simp_all [Side.ok, dropLevel]

/-- R117: a lease is renewed. -/
theorem ringsOk_renewHold {l : Nat} (k : ringsOk s = true) (h : inCall (s.cxm.get x) = true) :
    ringsOk (renewHold x l s) = true := by
  have hk := side_of_ringsOk k x
  rw [side_eq] at hk
  rw [inCall_eq, decide_eq_true_eq] at h
  refine ringsOk_of_side (x := x) k (by simp [renewHold]) (by simp [side_eq, renewHold]) rfl rfl (fun _ => rfl)
    (fun _ _ h => h) ?_ ?_ ?_ ?_
  · rw [side_eq]
    rcases h with h | ⟨h, hp⟩ <;> simp_all [Side.ok, dropLevel, renewHold]
  all_goals simp [renewHold]

theorem Side.ok_record {d : Side} {r : Option Timebase} (h : d.ok = true) (hr : r.isSome = d.record.isSome)
    (hs : slewOk r = true) : ({ d with record := r } : Side).ok = true := by
  have hd : slewOk d.record = true := by
    simp only [Side.ok, Bool.and_eq_true] at h
    obtain ⟨⟨⟨⟨⟨⟨_, hd⟩, _⟩, _⟩, _⟩, _⟩, _⟩ := h
    exact hd
  refine Eq.trans ?_ h
  simp only [Side.ok, hr, hs, hd]

theorem side_updRecord (r : Option Timebase) : side x (updRecord x r s) = { side x s with record := r } := by
  simp [side_eq]

/-- R10: a slew is set, within its range. -/
theorem ringsOk_adjusted {b : Timebase} {d : Int} (k : ringsOk s = true) (hb : s.tbu.record.get x = some b) :
    ringsOk (updRecord x (some { b with slew := if clampSlew d = 0 then none else some (clampSlew d) }) s) = true := by
  have hd : slewOk (some { b with slew := if clampSlew d = 0 then none else some (clampSlew d) }) = true := by
    have h1 : -2600 ≤ clampSlew d ∧ clampSlew d ≤ 2600 := by
      unfold clampSlew clampInt Config.maxSlew; (repeat' split) <;> omega
    unfold slewOk; dsimp only
    split
    · rename_i h; split at h <;> simp_all
    · rfl
  refine ringsOk_of_side (x := x) k rfl (by simp [side_eq]) rfl rfl (fun _ => rfl) (fun _ _ h => h) ?_ rfl rfl (fun h => h)
  rw [side_updRecord]
  exact Side.ok_record (side_of_ringsOk k x) (by simp [side_eq, hb]) hd

/-- R27, R112: a call is started from an exchange; the claim is free or held by x already. -/
theorem ringsOk_startCall {p : CallPattern} {l : Nat} (k : ringsOk s = true) (h : (s.cxm.get x).state = .exchange)
    (hc : s.ceu.claim ≠ some x.other) : ringsOk (startCall x p l s) = true := by
  have hk := side_of_ringsOk k x
  rw [side_eq] at hk
  have hne := other_ne x
  have hbare : ringsOk
      (updCeu x (fun i => { i with timer := none, lease := some (leaseOr l Config.defaultLease),
                                   active := some (clampPattern p), staged := none })
        (updCtx x (fun c => { c with state := .call, purpose := none, exchangeDeadline := none,
                                     leaseDeadline := some (framesAhead (leaseOr l Config.defaultLease) s) })
          (takeClaim x s))) = true := by
    refine ringsOk_of_side (x := x) k (by simp [takeClaim]) ?_ rfl rfl (fun _ => rfl) (fun _ _ h => h) ?_ (by simp [takeClaim])
      (by simp [takeClaim]) (by simp)
    · simp [side_eq, takeClaim, hne.symm, hc]
    · rw [side_eq]
      simp_all [Side.ok, dropLevel, takeClaim]
  refine ringsOk_of_base ?_ (fun y n h => ?_) hbare
  · rw [startCall, base_activate]
    refine base_updCeu_congr ((base_deactivate x .page _).trans (base_updCtx_congr ?_))
    rfl
  · exact aimed_activate _ _ _ (aimed_deactivate x .page _ h)

end

end Sys2Proof.Machine
end

section
/-! SUPPORT. The requests and events that end a call, camp on a cell, tear a subscription down, or change its ring. -/

namespace Sys2Proof.Machine

section
variable {x : Subscription} {s : State}

/-- R28, R31, R118, R119: a call ends; the notices it gives are left open. -/
theorem ringsOk_endCall {tell : State → State} (k : ringsOk s = true) (h : inCall (s.cxm.get x) = true)
    (hb : ∀ u, base (tell u) = base u) (ha : ∀ y n u, AimedTo y n u → AimedTo y n (tell u)) :
    ringsOk (endCall x tell s) = true := by
  have hk := side_of_ringsOk k x
  rw [side_eq] at hk
  rw [inCall_eq, decide_eq_true_eq] at h
  have hne := other_ne x
  have hbare : ringsOk
      (updCtx x afterCall
        (updCeu x (fun i => { i with lease := none, active := none, staged := none, resume := none })
          (releaseClaim s))) = true := by
    refine ringsOk_of_side (x := x) k (by simp [releaseClaim]) ?_ rfl rfl (fun _ => rfl) (fun _ _ h => h) ?_ ?_ ?_ ?_
    · rcases h with h | ⟨h, hp⟩ <;> simp_all [side_eq, releaseClaim, Side.ok, dropLevel, hne.symm]
    · rw [side_eq]
      rcases h with h | ⟨h, hp⟩ <;> simp_all [Side.ok, dropLevel, releaseClaim, afterCall]
    all_goals simp only [updCtx_cxm, PerSub.get_upd_self, afterCall]; split <;> simp_all [releaseClaim]
  have hend : ringsOk (updCtx x afterCall (tell (removeCall x (releaseClaim s)))) = true := by
    refine ringsOk_of_base (base_updCtx_congr ((hb _).trans (base_updCeu_congr (base_deactivate x .call _)))) ?_ hbare
    intro y n h
    exact ha _ _ _ (aimed_deactivate x .call _ h)
  unfold endCall; dsimp only; split
  · exact ringsOk_of_base (base_activate _ _ _) (fun _ _ => aimed_activate _ _ _) hend
  · exact hend

/-- R13, R24: CAMP in SEARCHING. -/
theorem ringsOk_campOn {b : CampBody} (k : ringsOk s = true) (h : (s.cxm.get x).state = .searching) :
    ringsOk (campOn x b s) = true := by
  have hk := side_of_ringsOk k x
  rw [side_eq] at hk
  unfold campOn; dsimp only
  refine ringsOk_of_base (by simp) (fun _ _ h => aimed_activate _ _ _ (aimed_activate _ _ _ h)) ?_
  generalize ht : updCtx x _ _ = t
  have hlaw := lawful_of_ringsOk k x
  have hface : face x t = { face x s with side := side x t, stray := false } := by
    subst ht; simp [face_eq]
  have hsize : (face x t).size = (face x s).size := by rw [hface]; rfl
  refine ringsOk_change (x := x) k ?_ ?_ ?_ ?_ (hsize ▸ ?_) ?_
  · subst ht; simp [face_eq, side_eq]
  · subst ht; rfl
  · subst ht; exact fun n h => h
  · have hs : (side x t).ok = true := by
      subst ht
      rw [side_eq]
      simp_all [Side.ok, dropLevel, slewOk]
    have hsv : (side x t).ctx.serving = some { tag := b.tag, channel := b.channel } := by
      subst ht; simp [side_eq, dropLevel]
    have hcells : (face x s).cells = [] := hlaw.offCell (by simp_all [face_eq, side_eq, Side.ok, dropLevel])
    have hduty : (face x s).duty = none := by simp_all [face_eq, Side.ok, dropLevel]
    have hres : (face x s).reselect = none := by simp_all [face_eq, Side.ok, dropLevel]
    rw [hface]
    exact ⟨hs, rfl, hlaw.distinct, by simp [hcells], by simp [hsv], hlaw.size, by simp [hduty], by simp [hres]⟩
  · have haim := aimed_of_ringsOk k x
    subst ht; exact haim
  · subst ht; simp

/-! ### Teardown (R33 to R36) -/

/-- Nothing but the plan, the generations and the sequencer changes. -/
def PlanOnly (s t : State) : Prop := t = { s with plan := t.plan, gens := t.gens, rsq := t.rsq }

theorem PlanOnly.refl (s : State) : PlanOnly s s := rfl
theorem PlanOnly.trans {s t u : State} (h : PlanOnly s t) (k : PlanOnly t u) : PlanOnly s u := by
  unfold PlanOnly at *; rw [k, h]

theorem planOnly_dropReads (h : Handle) (s : State) : PlanOnly s (dropReads h s) := rfl
theorem planOnly_demand (c : Cmd) (s : State) : PlanOnly s (demand c s) := by
  unfold demand; split <;> rfl
theorem planOnly_removeEntry (h : Handle) (s : State) : PlanOnly s (removeEntry h s) := by
  unfold removeEntry; split <;> rfl
theorem planOnly_cutOff (e : Entry) (s : State) : PlanOnly s (cutOff e s) := by
  unfold cutOff; split
  · exact (planOnly_dropReads _ _).trans (planOnly_demand _ _)
  · exact .refl s
theorem planOnly_tearEntry (e : Entry) (s : State) : PlanOnly s (tearEntry e s) :=
  (planOnly_cutOff e s).trans (planOnly_removeEntry _ _)
theorem planOnly_forEntries {f : Entry → State → State} (hf : ∀ e s, PlanOnly s (f e s)) (es : List Entry) (s : State) :
    PlanOnly s (forEntries f es s) := by
  induction es generalizing s with
  | nil => exact .refl s
  | cons e es ih => exact (hf e s).trans (ih _)
theorem planOnly_tearPlan (x : Subscription) (s : State) : PlanOnly s (tearPlan x s) :=
  planOnly_forEntries planOnly_tearEntry _ _

theorem upd_set {α : Type} (p : PerSub α) (x : Subscription) (v : α) (f : α → α) : (p.set x v).upd x f = p.set x (f v) := by
  cases x <;> rfl

/-- The fallback timebase after a teardown of x: that of the other subscription alone. -/
theorem fallback_filter (f : Option (Subscription × Timebase)) (x y : Subscription) :
    ((f.filter (fun g => g.1 != x)).map (·.1) == some y) = (decide (y ≠ x) && (f.map (·.1) == some y)) := by
  cases f with
  | none => simp
  | some g =>
    by_cases h : g.1 = x
    · by_cases hy : y = x
      · simp [Option.filter, h, hy]
      · simp [Option.filter, h, hy, Ne.symm hy]
    · by_cases hy : y = x
      · subst hy; simp [Option.filter, h]
      · simp [Option.filter, h, hy]

/-- All that a teardown leaves, but for the plan, its generations and the sequencer (R33 to R36, R85). -/
theorem teardown_eq (x : Subscription) (c : CtxState) (s : State) : teardown x c s =
    { s with
      plan := (tearPlan x s).plan, gens := (tearPlan x s).gens,
      rsq := { (tearPlan x s).rsq with ended := (tearPlan x s).rsq.ended.filter (fun w => w.entry.owner != x) },
      patterns := s.patterns.set x Patterns.atReset,
      pgu := s.pgu.set x { Pgu.atReset with epoch := (s.pgu.get x).epoch },
      ceu := { claim := if s.ceu.claim == some x then none else s.ceu.claim,
               items := s.ceu.items.set x CeuItems.atReset },
      msu := s.msu.set x Msu.atReset, selection := s.selection.set x none, hou := s.hou.set x Hou.atReset,
      tbu := { s.tbu with record := s.tbu.record.set x none, fallback := s.tbu.fallback.filter (fun f => f.1 != x) },
      cxm := s.cxm.set x { Context.atReset with state := c },
      missed := if c = .absent then s.missed.set x 0 else s.missed,
      credit := if s.ceu.claim == some x then { credit := 0, refill := 0 } else s.credit,
      queues := if s.ceu.claim == some x then
          s.queues.upd .P (fun n => n.push { body := .callEnded .teardown, sub := some x, stamp := s.tbu.lt })
        else s.queues } := by
  have hp := planOnly_tearPlan x s
  unfold teardown tearClaim; dsimp only
  rw [hp]
  by_cases h : s.ceu.claim = some x <;> by_cases hc : c = .absent <;>
    simp [h, hc, tearItems, releaseClaim, notifyAppAt, giveNotice, updCtx, now, upd_set]

/-- R33 to R36: the teardown of a subscription, to ABSENT or to SEARCHING. -/
theorem ringsOk_teardown {c : CtxState} (k : ringsOk s = true) (h : c = .absent ∨ c = .searching) :
    ringsOk (teardown x c s) = true := by
  have hne := (other_ne x).symm
  have hside : side x (teardown x c s) =
      { ctx := { Context.atReset with state := c }, record := none, fallback := false, claim := false, timer := false,
        lease := false, phase := none, reselect := false } := by
    rw [teardown_eq, side_eq]
    simp [fallback_filter, Context.atReset, CeuItems.atReset, Hou.atReset, dropLevel]
  have hface : face x (teardown x c s) =
      { side := side x (teardown x c s), stray := false, duty := none, reselect := none, cells := [] } := by
    rw [teardown_eq, face_eq]
    simp [Context.atReset, Hou.atReset, Msu.atReset]
  have hsize : (face x (teardown x c s)).size = 0 := by rw [hface]; rfl
  refine ringsOk_change (x := x) k ?_ ?_ ?_ ?_ ?_ ?_
  · rw [teardown_eq, face_eq, face_eq, side_eq, side_eq]
    simp [fallback_filter, hne.symm]
    exact fun h h' => hne (Option.some.inj (h'.symm.trans h))
  · rw [teardown_eq]
  · rw [teardown_eq]; simp [AimedTo]
  · rw [hface, hside]
    refine ⟨?_, rfl, List.nodup_nil, nofun, fun _ => rfl, Nat.zero_le _, nofun, nofun⟩
    rcases h with rfl | rfl <;> rfl
  · rw [hsize, teardown_eq]
    simp [AimedTo, Msu.atReset, selectionOk]
  · rw [teardown_eq]
    rcases h with rfl | rfl <;> simp

end

end Sys2Proof.Machine
end

section
/-! SUPPORT. The ring requests (R125, R129 to R132, R140) and RESELECT (R160). -/

namespace Sys2Proof.Machine

section
variable {x : Subscription} {s : State}

/-- On a cell and in no handover: no duty, a serving cell. -/
theorem onCell_face (k : ringsOk s = true) (h : onCell (s.cxm.get x) = true) :
    (face x s).duty = none ∧ (s.hou.get x).record = none ∧ (s.cxm.get x).serving.isSome = true := by
  have hk := side_of_ringsOk k x
  rw [side_eq] at hk
  have hst : (s.cxm.get x).state = .camped ∨ (s.cxm.get x).state = .exchange ∨ (s.cxm.get x).state = .call := by
    simpa [onCell, or_assoc] using h
  have hrec : (s.hou.get x).record = none := by
    rcases hst with h | h | h <;> simp_all [Side.ok, dropLevel]
  refine ⟨by rw [face_eq, hrec]; rfl, hrec, ?_⟩
  rcases hst with h | h | h <;> simp_all [Side.ok, dropLevel]

/-- On a cell and in no handover the aim is the ring itself. -/
theorem aimed_size (k : ringsOk s = true) (h : onCell (s.cxm.get x) = true) :
    AimedTo x (s.msu.get x).ring.length s := by
  have haim := aimed_of_ringsOk k x
  rwa [size_eq, (onCell_face k h).2.1] at haim

theorem not_serving {c : Cell} (k : ringsOk s = true) (h : (s.cxm.get x).serving = some c) :
    c ∉ (s.msu.get x).ring.map Neighbour.cell := by
  have hlaw := (lawful_of_ringsOk k x).apart
  rw [face_eq, side_eq] at hlaw
  exact hlaw c h

/-- A new ring of x, on a cell and in no handover. -/
theorem ringsOk_newRing {t : State} (k : ringsOk s = true) (h : onCell (s.cxm.get x) = true)
    (hc : t.cxm = s.cxm) (ht : t.tbu = s.tbu) (hu : t.ceu = s.ceu) (hh : t.hou = s.hou) (he : t.engines = s.engines)
    (hm : t.msu.get x.other = s.msu.get x.other) (hs : t.selection.get x.other = s.selection.get x.other)
    (hd : ((t.msu.get x).ring.map Neighbour.cell).Nodup)
    (ha : ∀ c, (s.cxm.get x).serving = some c → c ∉ (t.msu.get x).ring.map Neighbour.cell)
    (hz : (t.msu.get x).ring.length ≤ 16) (haim : AimedTo x (t.msu.get x).ring.length t) : ringsOk t = true := by
  obtain ⟨hduty, _, hserv⟩ := onCell_face k h
  have hlaw := lawful_of_ringsOk k x
  have hside (y : Subscription) : side y t = side y s := by rw [side_eq, side_eq, hc, ht, hu, hh]
  have hsv : (side x s).ctx.serving = (s.cxm.get x).serving := by rw [side_eq]; rfl
  have hface : face x t = { face x s with cells := (t.msu.get x).ring.map Neighbour.cell } := by
    rw [face_eq, face_eq, hside, hc, hh]
  have hsize : (face x t).size = (t.msu.get x).ring.length := by simp [hface, Face.size, hduty]
  have hfs : (face x s).side = side x s := by rw [face_eq]
  refine ringsOk_change (x := x) k ?_ he ?_ ?_ (hsize ▸ haim) ?_
  · rw [face_eq, face_eq, hside, hc, hh, hm]
  · simp [AimedTo, hm, hs]
  · obtain ⟨h1, h2, _, _, _, _, _, h8⟩ := hlaw
    rw [hface] at hsize ⊢
    refine ⟨h1, h2, hd, ?_, ?_, hsize ▸ hz, by simp [hduty], h8⟩
    · simpa [hfs, hsv] using ha
    · intro hn
      simp [hfs, hsv] at hn
      simp [hn] at hserv
  · rw [hc]; exact other_not_handover k

/-! ### The ring requests -/

/-- A void selection is lawful in any ring (R136). -/
theorem aimed_voided {n : Nat} (hl : (s.msu.get x).ring.length ≤ n) (hp : (s.msu.get x).pointer < max 1 n) :
    AimedTo x n (voidSelection x s) :=
  ⟨hl, hp, by simp [voidSelection, selectionOk_void]⟩

/-- The cell a listed neighbour names. -/
def specCell (r : NeighbourSpec) : Cell := { tag := r.tag, channel := r.channel }

@[simp] theorem freshNeighbour_cell (r : NeighbourSpec) : (freshNeighbour r).cell = specCell r := rfl

@[simp] theorem listedNeighbour_cell (ring : List Neighbour) (r : NeighbourSpec) :
    (listedNeighbour ring r).cell = specCell r := by
  unfold listedNeighbour; split <;> rfl

theorem isCell_iff (tag channel : Nat) (m : Neighbour) :
    isCell tag channel m = true ↔ m.cell = { tag := tag, channel := channel } := by
  simp [isCell, Neighbour.cell]

theorem hasDuplicate_iff (l : List NeighbourSpec) : hasDuplicate l = false ↔ (l.map specCell).Nodup := by
  induction l with
  | nil => simp [hasDuplicate]
  | cons r l ih =>
    simp only [hasDuplicate, Bool.or_eq_false_iff, ih, List.map_cons, List.nodup_cons]
    refine and_congr_left fun _ => ?_
    simp [specCell]

/-- SET_NEIGHBOURS (R129), of a list that fits its frame. -/
theorem ringsOk_setNeighbours {l : List NeighbourSpec} (k : ringsOk s = true) (h : onCell (s.cxm.get x) = true)
    (hs : (l.any (fun r => isServing x r.tag r.channel s)) = false) (hd : hasDuplicate l = false) (hl : l.length ≤ 16) :
    ringsOk (voidSelection x
      (updMsu x (fun m => { m with ring := l.map (listedNeighbour m.ring), pointer := 0, round := 0 }) s)) = true := by
  have hcells (ring : List Neighbour) : (l.map (listedNeighbour ring)).map Neighbour.cell = l.map specCell := by
    simp
  refine ringsOk_newRing (x := x) k h rfl rfl rfl rfl rfl (by simp [voidSelection]) (by simp [voidSelection]) ?_ ?_ ?_ ?_
  · simpa only [voidSelection, setSelection_msu, updMsu_msu, PerSub.get_upd_self, hcells] using (hasDuplicate_iff l).1 hd
  · intro c hc
    simp only [voidSelection, setSelection_msu, updMsu_msu, PerSub.get_upd_self, hcells]
    rintro hm
    obtain ⟨r, hr, rfl⟩ := List.mem_map.1 hm
    have := List.any_eq_false.1 hs r hr
    simp [isServing, hc, specCell] at this
  · simpa [voidSelection] using hl
  · simp [AimedTo, voidSelection, selectionOk_void]

/-- ADD_NEIGHBOUR (R130). -/
theorem ringsOk_addNeighbour {r : NeighbourSpec} (k : ringsOk s = true) (h : onCell (s.cxm.get x) = true)
    (hs : isServing x r.tag r.channel s = false) (hd : (s.msu.get x).ring.any (isCell r.tag r.channel) = false)
    (hl : (s.msu.get x).ring.length < 16) :
    ringsOk (updMsu x (fun m => { m with ring := m.ring ++ [freshNeighbour r] }) s) = true := by
  have hlaw := lawful_of_ringsOk k x
  have haim := (aimed_size k h).mono (Nat.le_succ _)
  have hcells : (face x s).cells = (s.msu.get x).ring.map Neighbour.cell := by rw [face_eq]
  have hnew : specCell r ∉ (s.msu.get x).ring.map Neighbour.cell := by
    rintro hm
    obtain ⟨m, hm, he⟩ := List.mem_map.1 hm
    exact List.any_eq_false.1 hd m hm ((isCell_iff _ _ _).2 he)
  refine ringsOk_newRing (x := x) k h rfl rfl rfl rfl rfl (by simp) rfl ?_ ?_ ?_ ?_ <;>
    simp only [updMsu_msu, PerSub.get_upd_self, List.map_append, List.map_singleton, freshNeighbour_cell,
      List.length_append, List.length_singleton]
  · rw [← List.concat_eq_append, List.nodup_concat]
    exact ⟨hnew, hcells ▸ hlaw.distinct⟩
  · intro c hc hm
    rcases List.mem_append.1 hm with hm | hm
    · exact not_serving k hc hm
    · simp [isServing, hc, specCell, List.mem_singleton.1 hm] at hs
  · omega
  · refine ⟨?_, ?_, ?_⟩ <;> simp only [updMsu_msu, PerSub.get_upd_self, List.length_append, List.length_singleton]
    exacts [le_refl _, haim.2.1, selectionOk_mono (Nat.le_succ _) _ haim.2.2]

/-- REMOVE_NEIGHBOUR (R131). -/
theorem ringsOk_removeAt {j : Nat} (k : ringsOk s = true) (h : onCell (s.cxm.get x) = true)
    (hj : j < (s.msu.get x).ring.length) : ringsOk (voidSelection x (updMsu x (removeAt j) s)) = true := by
  have hlaw := lawful_of_ringsOk k x
  have hsize := hlaw.size
  obtain ⟨_, hptr, _⟩ := aimed_size k h
  have hring : ((voidSelection x (updMsu x (removeAt j) s)).msu.get x).ring = (s.msu.get x).ring.eraseIdx j := by
    simp [voidSelection, removeAt]
  have hsub : List.Sublist (((s.msu.get x).ring.eraseIdx j).map Neighbour.cell) ((s.msu.get x).ring.map Neighbour.cell) :=
    (List.eraseIdx_sublist _ _).map _
  have hlen : ((s.msu.get x).ring.eraseIdx j).length = (s.msu.get x).ring.length - 1 := List.length_eraseIdx_of_lt hj
  refine ringsOk_newRing (x := x) k h rfl rfl rfl rfl rfl (by simp [voidSelection]) (by simp [voidSelection]) ?_ ?_ ?_ ?_ <;>
    rw [hring]
  · rw [face_eq] at hlaw
    exact hlaw.distinct.sublist hsub
  · exact fun c hc hm => not_serving k hc (hsub.subset hm)
  · rw [size_eq] at hsize; omega
  · refine aimed_voided ?_ ?_
    · simp [removeAt]
    · simp only [updMsu_msu, PerSub.get_upd_self, removeAt, pointerAfterRemoval, hlen]
      (repeat' split) <;> dsimp only <;> omega

/-- A change of the records of x's ring that keeps their cells. -/
theorem ringsOk_sameCells {f : Msu → Msu} (k : ringsOk s = true)
    (h : (f (s.msu.get x)).ring.map Neighbour.cell = (s.msu.get x).ring.map Neighbour.cell)
    (hp : (f (s.msu.get x)).pointer = (s.msu.get x).pointer) : ringsOk (updMsu x f s) = true :=
  ringsOk_of_view (view_updMsu h)
    (fun _ _ ha => aimed_updMsu_still ha (by simpa using congrArg List.length h) hp) k

/-- RESELECT (R160): the target is a cell of the ring. -/
theorem ringsOk_reselect {r : ReselectRecord} (k : ringsOk s = true) (h : (s.cxm.get x).state = .camped)
    (ht : r.target ∈ (s.msu.get x).ring.map Neighbour.cell) :
    ringsOk (updHou x (fun u => { u with reselect := some r }) s) = true := by
  have hk := side_of_ringsOk k x
  rw [side_eq] at hk
  have hlaw := lawful_of_ringsOk k x
  have hface : face x (updHou x (fun u => { u with reselect := some r }) s) =
      { face x s with side := { side x s with reselect := true }, reselect := some r.target } := by
    simp [face_eq, side_eq]
  have hside : ({ side x s with reselect := true } : Side).ok = true := by
    rw [side_eq]
    simp_all [Side.ok, dropLevel]
  have hsv : (side x s).ctx.serving = (s.cxm.get x).serving := by rw [side_eq]; rfl
  have hfs : (face x s).side = side x s := by rw [face_eq]
  refine ringsOk_change (x := x) k (by simp [face_eq, side_eq]) rfl (fun _ ha => ha) ?_ ?_ (other_not_handover k)
  · rw [hface]
    obtain ⟨_, h2, h3, h4, h5, h6, h7, _⟩ := hlaw
    rw [hfs] at h4 h5 h7
    refine ⟨hside, h2, h3, h4, h5, h6, h7, ?_⟩
    rintro c hc hs
    cases hc
    exact not_serving k (hsv ▸ hs) ht
  · rw [hface]
    exact aimed_of_ringsOk k x

end

end Sys2Proof.Machine
end

section
/-! SUPPORT. The ring at the switch of a handover or a reselection and at the end of a handover: the target set aside and
returned, and the swap with the old serving cell (R145, R152 to R154, R161). -/

namespace Sys2Proof.Machine

/-! ### The ring as a list -/

def cellsOf (ring : List Neighbour) : List Cell := ring.map Neighbour.cell

/-- The ring after a swap (R145). -/
def swapped (tag channel : Nat) (o : Neighbour) (ring : List Neighbour) : List Neighbour :=
  match positionOf tag channel ring with
  | some t => ring.set t o
  | none => if ring.length < Config.ringCapacity then ring ++ [o] else ring

/-- The position that is found holds a record of the cell. -/
theorem positionOf_some {tag channel t : Nat} {ring : List Neighbour} (h : positionOf tag channel ring = some t) :
    ∃ m, ring[t]? = some m ∧ m.cell = { tag := tag, channel := channel } ∧ t < ring.length := by
  obtain ⟨ht, hm, _⟩ := List.findIdx?_eq_some_iff_getElem.1 h
  exact ⟨ring[t], List.getElem?_eq_getElem ht, (isCell_iff _ _ _).1 hm, ht⟩

theorem positionOf_none {tag channel : Nat} {ring : List Neighbour} (h : positionOf tag channel ring = none) :
    ({ tag := tag, channel := channel } : Cell) ∉ cellsOf ring := by
  intro hm
  obtain ⟨m, hm, hc⟩ := List.mem_map.1 hm
  have := List.findIdx?_eq_none_iff.1 h m hm
  rw [(isCell_iff _ _ _).2 hc] at this
  cases this

/-- A record taken out of a ring of distinct cells leaves them distinct, and its own cell is gone. -/
theorem cells_eraseIdx {ring : List Neighbour} {t : Nat} {m : Neighbour} (hd : (cellsOf ring).Nodup)
    (h : ring[t]? = some m) :
    (cellsOf (ring.eraseIdx t)).Nodup ∧ m.cell ∉ cellsOf (ring.eraseIdx t) ∧
    ∀ c ∈ cellsOf (ring.eraseIdx t), c ∈ cellsOf ring := by
  obtain ⟨ht, rfl⟩ := List.getElem?_eq_some_iff.1 h
  have hp : (cellsOf (ring[t] :: ring.eraseIdx t)).Perm (cellsOf ring) := (List.getElem_cons_eraseIdx_perm ht).map _
  have hn := hp.nodup_iff.2 hd
  simp only [cellsOf, List.map_cons, List.nodup_cons] at hn
  exact ⟨hn.2, hn.1, fun c hc => hp.subset (List.mem_cons_of_mem _ hc)⟩

theorem cells_insertIdx {ring : List Neighbour} {t : Nat} {m : Neighbour} (ht : t ≤ ring.length) :
    (cellsOf (ring.insertIdx t m)).Perm (m.cell :: cellsOf ring) := (List.perm_insertIdx m ring ht).map _

/-- After a swap the cells are distinct, the target is not among them, and no other cell than the old one has come. -/
theorem cells_swapped {tag channel : Nat} {o : Neighbour} {ring : List Neighbour} (hd : (cellsOf ring).Nodup)
    (ho : o.cell ∉ cellsOf ring) (ht : o.cell ≠ { tag := tag, channel := channel }) (hl : ring.length ≤ 16) :
    (cellsOf (swapped tag channel o ring)).Nodup ∧
    ({ tag := tag, channel := channel } : Cell) ∉ cellsOf (swapped tag channel o ring) ∧
    (swapped tag channel o ring).length ≤ 16 ∧ ring.length ≤ (swapped tag channel o ring).length := by
  unfold swapped
  cases hpos : positionOf tag channel ring with
  | some t =>
    obtain ⟨m, hm, hc, hlt⟩ := positionOf_some hpos
    obtain ⟨hn, hout, hsub⟩ := cells_eraseIdx hd hm
    have hp : (cellsOf (ring.set t o)).Perm (o.cell :: cellsOf (ring.eraseIdx t)) :=
      (List.set_perm_cons_eraseIdx hlt o).map _
    refine ⟨hp.nodup_iff.2 (List.nodup_cons.2 ⟨fun h => ho (hsub _ h), hn⟩), fun h => ?_, by simpa, by simp⟩
    rcases List.mem_cons.1 (hp.subset h) with h | h
    · exact ht h.symm
    · exact hout (hc ▸ h)
  | none =>
    have hnot := positionOf_none hpos
    dsimp only; split
    · rename_i hcap
      rw [Config.ringCapacity] at hcap
      refine ⟨?_, ?_, by simp; omega, by simp⟩
      · rw [cellsOf, List.map_append, List.map_singleton, ← List.concat_eq_append, List.nodup_concat]
        exact ⟨ho, hd⟩
      · rw [cellsOf, List.map_append, List.map_singleton, List.mem_append, List.mem_singleton]
        exact fun h => h.elim hnot fun h => ht h.symm
    · exact ⟨hd, hnot, hl, le_refl _⟩

theorem set_insertIdx_self {α : Type} (a b : α) (l : List α) (p : Nat) : (l.insertIdx p a).set p b = l.insertIdx p b := by
  induction p generalizing l with
  | zero => rfl
  | succ p ih =>
    cases l with
    | nil => rfl
    | cons c l => simp [ih]

/-- The ring with the record held aside back in its place (R154). -/
def returned (held : Option (Neighbour × Nat)) (ring : List Neighbour) : List Neighbour :=
  match held with
  | some (m, t) => ring.insertIdx t m
  | none => ring

/-- The record held aside comes back to a ring that has none of its cell. -/
theorem cells_returned {held : Option (Neighbour × Nat)} {ring : List Neighbour} {c : Cell}
    (hd : (cellsOf ring).Nodup) (hc : c ∉ cellsOf ring)
    (hh : ∀ m t, held = some (m, t) → m.cell = c ∧ t ≤ ring.length) :
    (cellsOf (returned held ring)).Nodup ∧ (∀ d ∈ cellsOf (returned held ring), d = c ∨ d ∈ cellsOf ring) ∧
    (returned held ring).length = ring.length + if held.isSome then 1 else 0 := by
  rcases held with _ | ⟨m, t⟩
  · exact ⟨hd, fun _ h => .inr h, rfl⟩
  · obtain ⟨hm, ht⟩ := hh m t rfl
    have hp := cells_insertIdx (m := m) ht
    rw [hm] at hp
    exact ⟨hp.nodup_iff.2 (List.nodup_cons.2 ⟨hc, hd⟩), fun d h => List.mem_cons.1 (hp.subset h),
      List.length_insertIdx_of_le_length ht m⟩

/-- A swap just after the target has been put back puts the old cell in its place. -/
theorem swapped_insertIdx {tag channel p : Nat} {m o : Neighbour} {ring : List Neighbour}
    (hm : m.cell = { tag := tag, channel := channel }) (hn : ({ tag := tag, channel := channel } : Cell) ∉ cellsOf ring)
    (hp : p ≤ ring.length) :
    positionOf tag channel (ring.insertIdx p m) = some p ∧ (ring.insertIdx p m).set p o = ring.insertIdx p o := by
  have hlen : p < (ring.insertIdx p m).length := by rw [List.length_insertIdx_of_le_length hp]; omega
  refine ⟨List.findIdx?_eq_some_iff_getElem.2 ⟨hlen, ?_, fun j hj => ?_⟩, set_insertIdx_self _ _ _ _⟩
  · rw [List.getElem_insertIdx_self, isCell_iff]
    exact hm
  · rw [List.getElem_insertIdx_of_lt hj, isCell_iff]
    exact fun h => hn (h ▸ List.mem_map_of_mem (List.getElem_mem _))

/-! ### The operations -/

section
variable {x : Subscription} {s : State}

/-- The level a swap gives the context: that of the target's record (R145). -/
def swappedLevel (tag channel : Nat) (ring : List Neighbour) : Option Int :=
  (positionOf tag channel ring).bind fun t => (ring[t]?).bind (·.level)

/-- A swap is a change of one ring and one level, and makes the selection void (R145). -/
theorem swapRing_eq (tag channel : Nat) (o : Int) (old : Cell) (l : Option Int) :
    swapRing x tag channel o old l s =
      voidSelection x (updCtx x (fun c => { c with level := swappedLevel tag channel (s.msu.get x).ring })
        (updMsu x (fun m => { m with ring := swapped tag channel (oldServing old l o) m.ring }) s)) := by
  have hm (f : Msu → Msu) (m : Msu) (h : s.msu.get x = m) : updMsu x f s = { s with msu := s.msu.set x (f m) } := by
    rw [updMsu, PerSub.upd, h]
  unfold swapRing swapped swappedLevel; dsimp only
  cases hp : positionOf tag channel (s.msu.get x).ring with
  | some t => rw [hm _ _ rfl, hm _ _ rfl, hp]; rfl
  | none =>
    rw [hm _ _ rfl, hm _ _ rfl, hp]
    dsimp only
    split
    · rfl
    · have hs : s.msu.set x (s.msu.get x) = s.msu := by cases x <;> rfl
      rw [hs]; rfl

theorem updMsu_ring_self (x : Subscription) (p : PerSub Msu) : p.upd x (fun m => { m with ring := m.ring }) = p := by
  cases x <;> rfl

/-- All that the return of a held record changes (R154). -/
theorem returnHeld_kept (x : Subscription) (held : Option (Neighbour × Nat)) (s : State) :
    (returnHeld x held s).cxm = s.cxm ∧ (returnHeld x held s).tbu = s.tbu ∧ (returnHeld x held s).ceu = s.ceu ∧
    (returnHeld x held s).hou = s.hou ∧ (returnHeld x held s).engines = s.engines ∧
    (returnHeld x held s).msu = s.msu.upd x (fun m => { m with ring := returned held m.ring }) ∧
    (returnHeld x held s).selection.get x.other = s.selection.get x.other := by
  rcases held with _ | ⟨m, t⟩
  · exact ⟨rfl, rfl, rfl, rfl, rfl, (updMsu_ring_self x _).symm, rfl⟩
  · exact ⟨rfl, rfl, rfl, rfl, rfl, rfl, by simp [returnHeld, voidSelection]⟩

theorem aimed_returnHeld {held : Option (Neighbour × Nat)} {n : Nat} (h : AimedTo x n s)
    (hn : (returned held (s.msu.get x).ring).length ≤ n) : AimedTo x n (returnHeld x held s) := by
  rcases held with _ | ⟨m, t⟩
  · exact h
  · exact aimed_voided (by simpa [returned] using hn) (by simpa using h.2.1)

/-- What taking the target out of the ring can do: nothing where the ring has none, otherwise its record is held with its
position, and the selection is void (R154). -/
theorem setAside_cases (x : Subscription) (r : HandoverRecord) (s : State) :
    (r.duty.target ∉ cellsOf (s.msu.get x).ring ∧ setAside x r s = (none, s)) ∨
    ∃ m t, (s.msu.get x).ring[t]? = some m ∧ m.cell = r.duty.target ∧
      setAside x r s = (some (m, t), voidSelection x (updMsu x (fun n => { n with ring := n.ring.eraseIdx t }) s)) := by
  unfold setAside; dsimp only
  cases hp : positionOf r.tag r.channel (s.msu.get x).ring with
  | none => exact .inl ⟨positionOf_none hp, rfl⟩
  | some t =>
    obtain ⟨m, hm, hc, _⟩ := positionOf_some hp
    exact .inr ⟨m, t, hm, hc, by simp [hm]⟩

end

end Sys2Proof.Machine
end

section
/-! SUPPORT. The handover's own steps keep the law of the rings: it is armed (R148), switched (R152, R154), and ends in one of
three ways (R151, R156, R157); and a reselection is carried out (R161). -/

namespace Sys2Proof.Machine

section
variable {x : Subscription} {s u : State} {c : Cell}

/-! ### The end of a handover (R32) -/

/-- `u` is `s` with the ring, the serving cell and the timebase of x settled on one cell, before a handover of x ends. -/
structure Settled (x : Subscription) (s u : State) (c : Cell) : Prop where
  other : face x.other u = face x.other s
  engines : u.engines = s.engines
  hou : u.hou = s.hou
  side : side x u =
    { side x s with ctx := { (side x s).ctx with serving := some c }, record := u.tbu.record.get x, fallback := false }
  record : (u.tbu.record.get x).isSome = true
  slew : slewOk (u.tbu.record.get x) = true
  distinct : (cellsOf (u.msu.get x).ring).Nodup
  apart : c ∉ cellsOf (u.msu.get x).ring
  size : (u.msu.get x).ring.length ≤ 16
  aim : AimedTo x (u.msu.get x).ring.length u
  aimOther : ∀ n, AimedTo x.other n s → AimedTo x.other n u

/-- The context in which a handover leaves x (R32, R107). -/
def backContext (d : Option LT) (c : Context) : Context :=
  match c.prior with
  | some .call => { c with state := .call, prior := none }
  | some .exchange => { c with state := .exchange, prior := none, exchangeDeadline := d }
  | _ => { c with state := .camped, prior := none }

theorem returnContext_eq (x : Subscription) (s : State) : returnContext x s =
    updCtx x (backContext ((s.ceu.items.get x).timer.map (fun t => ltAdd (now s) (t * Config.frameTicks)))) s := by
  unfold returnContext backContext
  congr 1

/-- The laws of a side that leaves its handover. -/
theorem Side.ok_back {d : Side} {c : Cell} {r : Option Timebase} {t : Option LT} (h : d.ok = true)
    (hs : d.ctx.state = .handover) (hr : r.isSome = true) (hw : slewOk r = true) (ht : t.isSome = d.timer) :
    ({ d with ctx := backContext t { d.ctx with serving := some c }, record := r, fallback := false,
              phase := none } : Side).ok = true := by
  obtain ⟨p, hp⟩ : ∃ p, d.ctx.prior = some p := by
    rw [← Option.isSome_iff_exists]
    simp_all [Side.ok]
  cases p <;> simp_all [Side.ok, backContext]

theorem dropLevel_backContext (d : Option LT) (c : Context) :
    dropLevel (backContext d c) = backContext d (dropLevel c) := by
  unfold backContext dropLevel
  rcases c.prior with _ | _ | _ | _ <;> rfl

theorem backContext_state (d : Option LT) (c : Context) : (backContext d c).state ≠ .handover := by
  unfold backContext; split <;> simp

theorem backContext_serving (d : Option LT) (c : Context) : (backContext d c).serving = c.serving := by
  unfold backContext; split <;> rfl

theorem ringsOk_returned (k : ringsOk s = true) (h : (s.cxm.get x).state = .handover) (S : Settled x s u c) :
    ringsOk (returnContext x (setHandover x none u)) = true := by
  have hk := side_of_ringsOk k x
  have hst : (side x s).ctx.state = .handover := by rw [side_eq]; exact h
  have hserv : (u.cxm.get x).serving = some c := by
    have hs := congrArg (fun d => d.ctx.serving) S.side
    rwa [side_eq] at hs
  have htimer : (u.ceu.items.get x).timer.isSome = (side x s).timer := by
    have hs := congrArg Side.timer S.side
    rwa [side_eq] at hs
  have hres : (u.hou.get x).reselect = none := by
    rw [S.hou]
    rw [side_eq] at hk
    simp_all [Side.ok, dropLevel]
  generalize ht : returnContext x (setHandover x none u) = t
  rw [returnContext_eq] at ht
  have hside : side x t =
      { side x s with
        ctx := backContext ((u.ceu.items.get x).timer.map (fun t => ltAdd (now u) (t * Config.frameTicks)))
          { (side x s).ctx with serving := some c },
        record := u.tbu.record.get x, fallback := false, phase := none } := by
    have hu := S.side
    subst ht
    rw [side_eq x u] at hu
    rw [side_eq x (updCtx _ _ _)]
    obtain ⟨hctx, _, hfb, hcl, htm, hls, _, hrs⟩ := Side.mk.injEq .. ▸ hu
    simp [setHandover, dropLevel_backContext, hctx, hfb, hcl, htm, hls, hrs, now]
  have hface : face x t =
      { side := side x t, stray := false, duty := none, reselect := none, cells := cellsOf (u.msu.get x).ring } := by
    rw [face_eq]
    subst ht
    simp [setHandover, backContext_serving, hserv, hres, cellsOf]
  have hsize : (face x t).size = (u.msu.get x).ring.length := by rw [hface]; simp [Face.size, cellsOf]
  have hctx : (side x t).ctx.serving = some c := by rw [hside]; exact backContext_serving _ _
  refine ringsOk_change (x := x) k ?_ ?_ ?_ ?_ ?_ ?_
  · refine Eq.trans ?_ S.other
    subst ht
    simp [face_eq, side_eq, setHandover]
  · subst ht; exact S.engines
  · subst ht; exact S.aimOther
  · rw [hface]
    refine ⟨?_, rfl, S.distinct, ?_, ?_, by rw [← hface, hsize]; exact S.size, nofun, nofun⟩
    · rw [hside]
      exact Side.ok_back hk hst S.record S.slew (by simpa using htimer)
    · intro d hd
      rw [hctx] at hd; cases hd
      exact S.apart
    · intro hn; rw [hctx] at hn; cases hn
  · rw [hsize]; subst ht; exact S.aim
  · subst ht; intro hh; simp [setHandover] at hh; exact absurd hh (backContext_state _ _)

/-! ### HANDOVER_CANCEL, HANDOVER_CONFIRM and the revert -/

/-- What the laws say of a handover that x is in. -/
structure InHandover (x : Subscription) (s : State) (r : HandoverRecord) (c : Cell) : Prop where
  record : (s.hou.get x).record = some r
  state : (s.cxm.get x).state = .handover
  serving : (s.cxm.get x).serving = some c
  distinct : (cellsOf (s.msu.get x).ring).Nodup
  apart : c ∉ cellsOf (s.msu.get x).ring
  size : (s.msu.get x).ring.length + (if r.held.isSome then 1 else 0) ≤ 16
  duty : r.duty.Lawful (some c) (cellsOf (s.msu.get x).ring)
  aim : AimedTo x ((s.msu.get x).ring.length + (if r.held.isSome then 1 else 0)) s
  fallback : (s.tbu.fallback.map (·.1) == some x) = (r.phase == .switched)
  timebase : (s.tbu.record.get x).isSome = true ∧ slewOk (s.tbu.record.get x) = true

theorem inHandover (k : ringsOk s = true) {r : HandoverRecord} (hr : (s.hou.get x).record = some r) :
    ∃ c, InHandover x s r c := by
  have hk := side_of_ringsOk k x
  have hlaw := lawful_of_ringsOk k x
  have haim := aimed_of_ringsOk k x
  rw [side_eq] at hk
  simp only [Side.ok, Bool.and_eq_true, beq_iff_eq, hr, Option.map_some, Option.isSome_some] at hk
  obtain ⟨⟨⟨⟨⟨⟨⟨⟨⟨_, hsv⟩, _⟩, hrec⟩, hslew⟩, hph⟩, hf⟩, _⟩, _⟩, _⟩ := hk
  have hst : (s.cxm.get x).state = .handover := of_decide_eq_true hph.symm
  have hcell : decide ((dropLevel (s.cxm.get x)).state ≠ .absent ∧ (dropLevel (s.cxm.get x)).state ≠ .searching) = true := by
    rw [show (dropLevel (s.cxm.get x)).state = .handover from hst]; rfl
  obtain ⟨c, hc⟩ := Option.isSome_iff_exists.1 (hsv.trans hcell)
  have hfb : (s.tbu.fallback.map (·.1) == some x) = (r.phase == .switched) := by simpa using hf
  have hsize := size_eq x s
  rw [hr, Option.bind_some] at hsize
  have hface := face_eq x s
  rw [side_eq, hr] at hface
  obtain ⟨_, _, hd, ha, _, hz, hdu, _⟩ := hlaw
  rw [hsize] at haim hz
  rw [hface] at hd ha hdu
  exact ⟨c, hr, hst, hc, hd, ha c hc, hz, hc ▸ hdu _ rfl, haim, hfb, hrec.trans hcell, hslew⟩

@[simp] theorem base_dropSync (x : Subscription) (r : HandoverRecord) (s : State) : base (dropSync x r s) = base s := by
  unfold dropSync; split <;> simp

/-- R151: a handover is cancelled in ARMED. -/
theorem ringsOk_cancelHandover {r : HandoverRecord} (k : ringsOk s = true) (hr : (s.hou.get x).record = some r)
    (hp : r.phase = .armed) : ringsOk (cancelHandover x r s) = true := by
  obtain ⟨c, H⟩ := inHandover k hr
  obtain ⟨hcxm, htbu, hceu, hhou, heng, hring⟩ := kept_of_base (base_dropSync x r s)
  have hheld : r.held = none := by
    have h := (H.duty.armed hp).1
    simpa [HandoverRecord.duty] using h
  have hsize := H.size
  have haim := H.aim
  simp only [hheld, Option.isSome_none, Bool.false_eq_true, if_false, Nat.add_zero] at hsize haim
  refine ringsOk_returned (c := c) k H.state ⟨?_, heng, hhou, ?_, ?_, ?_, ?_, ?_, ?_, ?_, ?_⟩
  · exact face_of_view (by simp) _
  · have hfb := H.fallback
    have hsv := H.serving
    rw [side_eq, side_eq, hcxm, htbu, hceu, hhou]
    simp_all [dropLevel]
  · rw [htbu]; exact H.timebase.1
  · rw [htbu]; exact H.timebase.2
  · rw [hring]; exact H.distinct
  · rw [hring]; exact H.apart
  · rw [hring]; exact hsize
  · rw [hring]; exact aimed_dropSync _ _ _ haim
  · exact fun n h => aimed_dropSync _ _ _ h

/-- In SWITCHED the serving cell is the target, and the old one is kept aside (R152, R154). -/
theorem InHandover.switched {r : HandoverRecord} (H : InHandover x s r c) (hp : r.phase = .switched) :
    c = { tag := r.tag, channel := r.channel } ∧
    (∃ f, r.fallbackCell = some f ∧ f.cell ≠ c ∧ f.cell ∉ cellsOf (s.msu.get x).ring) ∧
    ∀ m t, r.held = some (m, t) → m.cell = c ∧ t ≤ (s.msu.get x).ring.length := by
  have hc : c = { tag := r.tag, channel := r.channel } := Option.some.inj (H.duty.switched hp)
  obtain ⟨f, hf⟩ : ∃ f, r.fallbackCell = some f := by
    have h := H.duty.fallback
    rw [← Option.isSome_iff_exists]
    simpa [HandoverRecord.duty, hp] using h
  have hapart := H.duty.apart hp f.cell (by simp [HandoverRecord.duty, hf])
  refine ⟨hc, ⟨f, hf, hc ▸ hapart.1, hapart.2⟩, fun m t hm => ?_⟩
  have hheld := H.duty.held hp m.cell t (by simp [HandoverRecord.duty, hm])
  rw [cellsOf, List.length_map] at hheld
  exact ⟨hheld.1.trans hc.symm, hheld.2⟩

/-- R156: a handover is confirmed in SWITCHED. -/
theorem ringsOk_confirmHandover {r : HandoverRecord} (k : ringsOk s = true) (hr : (s.hou.get x).record = some r)
    (hp : r.phase = .switched) : ringsOk (confirmHandover x r s) = true := by
  obtain ⟨c, H⟩ := inHandover k hr
  obtain ⟨hc, ⟨f, hf, hfc, hfr⟩, hheld⟩ := H.switched hp
  have hheld' (m : Neighbour) (t : Nat) (l : Option Int)
      (hm : r.held.map (fun p => ({ p.1 with level := l }, p.2)) = some (m, t)) :
      m.cell = c ∧ t ≤ (s.msu.get x).ring.length := by
    obtain ⟨⟨m', t'⟩, hm', he⟩ := Option.map_eq_some_iff.1 hm
    cases he
    exact hheld m' _ hm'
  obtain ⟨hd, hsub, hlen⟩ := cells_returned H.distinct H.apart fun m t hm => hheld' m t (s.cxm.get x).level hm
  rw [Option.isSome_map] at hlen
  obtain ⟨hvc, hvt, hvu, hvh, hve, hvm, hvs⟩ :=
    returnHeld_kept x (r.held.map (fun p => ({ p.1 with level := (s.cxm.get x).level }, p.2))) (setResume x none s)
  have hcall : (setResume x none s).ceu = { s.ceu with items := s.ceu.items.upd x (fun i => { i with resume := none }) } := rfl
  rw [hcall] at hvu
  unfold confirmHandover; dsimp only
  rw [hf]; dsimp only
  refine ringsOk_of_view ((congrArg Base.view (base_notify _ _ _)).trans (view_resumePatterns _ _))
    (fun y n h => by simpa using aimed_resumePatterns _ _ h) ?_
  generalize returnHeld x _ (setResume x none s) = v at *
  generalize hl : returned _ (s.msu.get x).ring = l at *
  have hring : (v.msu.get x).ring = l := by rw [hvm]; simp [setResume, hl]
  have hptr : (v.msu.get x).pointer = (s.msu.get x).pointer := by rw [hvm]; simp [setResume]
  obtain ⟨hsd, hst, hsl, hsg⟩ := cells_swapped (o := oldServing f.cell f.level r.offset) (tag := r.tag)
    (channel := r.channel) hd (fun h => (hsub _ h).elim hfc hfr) (hc ▸ hfc) (hlen ▸ H.size)
  have hfb := H.fallback
  have hno : (s.tbu.fallback.map (·.1) == some x.other) = false := by
    have hx : s.tbu.fallback.map (·.1) = some x := by simpa [hp] using hfb
    rw [hx]; simpa using (other_ne x).symm
  have hnew : ((setFallback none (swapRing x r.tag r.channel r.offset f.cell f.level v)).msu.get x).ring =
      swapped r.tag r.channel (oldServing f.cell f.level r.offset) l := by
    simp [swapRing_eq, setFallback, voidSelection, hring]
  refine ringsOk_returned (c := c) k H.state ⟨?_, ?_, ?_, ?_, ?_, ?_, ?_, ?_, ?_, ?_, ?_⟩
  · rw [face_eq, face_eq, side_eq, side_eq]
    simp [swapRing_eq, setFallback, voidSelection, hvc, hvt, hvu, hvh, hvm, setResume, hno]
  · simp [swapRing_eq, setFallback, voidSelection, hve, setResume]
  · simp [swapRing_eq, setFallback, voidSelection, hvh, setResume]
  · have hsv := H.serving
    rw [side_eq, side_eq]
    simp [swapRing_eq, setFallback, voidSelection, hvc, hvh, hvu, hvt, setResume, dropLevel, hsv]
  · simpa [swapRing_eq, setFallback, voidSelection, hvt, setResume] using H.timebase.1
  · simpa [swapRing_eq, setFallback, voidSelection, hvt, setResume] using H.timebase.2
  · rw [hnew]; exact hsd
  · rw [hnew]; exact hc ▸ hst
  · rw [hnew]; exact hsl
  · rw [hnew, swapRing_eq, aimed_setFallback]
    obtain ⟨_, hlt, _⟩ := H.aim
    refine aimed_voided (by simp [hring]) ?_
    simp only [updCtx_msu, updMsu_msu, PerSub.get_upd_self, hptr]
    omega
  · intro n h
    simpa [AimedTo, swapRing_eq, setFallback, voidSelection, hvm, hvs, setResume] using h

/-- R157: a handover is reverted in SWITCHED. -/
theorem ringsOk_revertHandover {r : HandoverRecord} {why : FailReason} (k : ringsOk s = true)
    (hr : (s.hou.get x).record = some r) (hp : r.phase = .switched) : ringsOk (revertHandover x r why s) = true := by
  obtain ⟨c, H⟩ := inHandover k hr
  obtain ⟨hc, ⟨f, hf, hfc, hfr⟩, hheld⟩ := H.switched hp
  have hx : s.tbu.fallback.map (·.1) = some x := by simpa [hp] using H.fallback
  obtain ⟨⟨x', b⟩, hb, rfl⟩ := Option.map_eq_some_iff.1 hx
  have hno : (s.tbu.fallback.map (·.1) == some x'.other) = false := by
    rw [hx]; simpa using (other_ne x').symm
  obtain ⟨hd, hsub, hlen⟩ := cells_returned H.distinct H.apart hheld
  dsimp only at *
  unfold revertHandover; dsimp only
  have hbase : base (flushSub x' (dropSync x' r (setResume x' none s))) = base (setResume x' none s) := by simp
  have haim (y : Subscription) (n : Nat) (h : AimedTo y n s) :
      AimedTo y n (flushSub x' (dropSync x' r (setResume x' none s))) := by simp [h]
  obtain ⟨wcxm, wtbu, wceu, whou, weng, wring⟩ := kept_of_base hbase
  generalize flushSub x' (dropSync x' r (setResume x' none s)) = w at *
  have hwb : w.tbu.fallback = some (x', b) := by rw [wtbu]; exact hb
  rw [hwb, hf]; dsimp only
  refine ringsOk_of_view (view_resumePatterns _ _) (fun y n h => aimed_resumePatterns _ _ h) ?_
  obtain ⟨hvc, hvt, hvu, hvh, hve, hvm, hvs⟩ :=
    returnHeld_kept x' r.held (setServing x' f.cell f.level (setFallback none (reanchor x' b.fnRef b.ltRef w)))
  have hheldAim := aimed_returnHeld (x := x') (held := r.held) (n := (s.msu.get x').ring.length + if r.held.isSome then 1 else 0)
    (s := setServing x' f.cell f.level (setFallback none (reanchor x' b.fnRef b.ltRef w)))
    (by simpa using haim _ _ H.aim) (by rw [← hlen]; exact (congrArg (fun l => (returned r.held l).length) (wring x')).le)
  generalize returnHeld x' r.held _ = v at *
  have hback : base (notify x' (.handoverFailed why) (rematerialise x' .call none v)) = base v := by simp
  have haimv (y : Subscription) (n : Nat) (h : AimedTo y n v) :
      AimedTo y n (notify x' (.handoverFailed why) (rematerialise x' .call none v)) := by simp [h]
  obtain ⟨ucxm, utbu, uceu, uhou, ueng, uring⟩ := kept_of_base hback
  generalize notify x' (.handoverFailed why) (rematerialise x' .call none v) = u at *
  have hring : (u.msu.get x').ring = returned r.held (s.msu.get x').ring := by
    rw [uring, hvm, PerSub.get_upd_self]; exact congrArg (returned r.held) (wring x')
  refine ringsOk_returned (c := f.cell) k H.state ⟨?_, ?_, ?_, ?_, ?_, ?_, ?_, ?_, ?_, ?_, ?_⟩
  · rw [face_of_view (congrArg Base.view hback), face_eq, face_eq, side_eq, side_eq]
    simp [hvc, hvt, hvu, hvh, hvm, wcxm, wceu, whou, wring, wtbu, setServing, setFallback, reanchor, realign, setResume, hno]
  · rw [ueng, hve]; exact weng
  · rw [uhou, hvh]; exact whou
  · rw [side_eq, side_eq]
    simp [ucxm, utbu, uceu, uhou, hvc, hvt, hvu, hvh, wcxm, wceu, whou, wtbu, setServing, setFallback, reanchor, realign,
      setResume, dropLevel]
  · rw [utbu, hvt]; simp [setServing, setFallback, reanchor, realign]
  · rw [utbu, hvt]; simp [setServing, setFallback, reanchor, realign, slewOk]
  · rw [hring]; exact hd
  · rw [hring]; exact fun h => (hsub _ h).elim hfc hfr
  · rw [hring, hlen]; exact H.size
  · rw [hring, hlen]
    exact haimv _ _ hheldAim
  · intro n h
    refine haimv _ _ ?_
    have := haim _ _ h
    simpa [AimedTo, hvm, hvs, setServing, setFallback, reanchor, realign] using this

end

end Sys2Proof.Machine
end

section
/-! SUPPORT. A handover is armed (R148) and switched (R152, R154), and a reselection is carried out (R161). -/

namespace Sys2Proof.Machine

section
variable {x : Subscription} {s : State}

/-! ### The arming of a handover -/

theorem reselect_none (k : ringsOk s = true) (h : (s.cxm.get x).state ≠ .camped) : (face x s).reselect = none := by
  have hk := side_of_ringsOk k x
  rw [side_eq] at hk
  rw [face_eq]
  simp_all [Side.ok, dropLevel]

/-- A cell that R148 or R160 names as a target is in the ring. -/
theorem targetOffset_mem {tag channel : Nat} {o : Int} (h : targetOffset x tag channel s = some o) :
    ({ tag := tag, channel := channel } : Cell) ∈ cellsOf (s.msu.get x).ring := by
  obtain ⟨m, hm, _⟩ := Option.bind_eq_some_iff.1 h
  have hc := (isCell_iff _ _ _).1 (List.find?_some hm)
  exact hc ▸ List.mem_map_of_mem (List.mem_of_find?_eq_some hm)

/-- The duty of an armed handover is lawful where the target is not the serving cell. -/
theorem armedRecord_lawful {b : ArmBody} {o : Int} {h : Handle} {serving : Option Cell} {cells : List Cell}
    (hs : serving ≠ some { tag := b.tag, channel := b.channel }) : (armedRecord b o h).duty.Lawful serving cells :=
  ⟨rfl, rfl, fun _ => ⟨rfl, hs⟩, nofun, nofun, nofun⟩

theorem Side.ok_armed {d : Side} (h : d.ok = true) (hc : d.ctx.state = .exchange ∨ d.ctx.state = .call) :
    ({ d with ctx := armContext d.ctx, phase := some .armed } : Side).ok = true := by
  rcases hc with hc | hc <;> simp_all [Side.ok, armContext]

theorem dropLevel_armContext (c : Context) : dropLevel (armContext c) = armContext (dropLevel c) := rfl

/-- R30, R149: a handover is armed; the other subscription is in none. -/
theorem ringsOk_armed {b : ArmBody} {o : Int} {h : Handle} (k : ringsOk s = true)
    (hc : (s.cxm.get x).state = .exchange ∨ (s.cxm.get x).state = .call)
    (hn : (s.cxm.get x.other).state ≠ .handover)
    (ht : ({ tag := b.tag, channel := b.channel } : Cell) ∈ cellsOf (s.msu.get x).ring) :
    ringsOk (updCtx x armContext (setHandover x (some (armedRecord b o h)) s)) = true := by
  have hon : onCell (s.cxm.get x) = true := by rcases hc with hc | hc <;> simp [onCell, hc]
  obtain ⟨hduty, hrec, _⟩ := onCell_face k hon
  have hlaw := lawful_of_ringsOk k x
  have hfs : (face x s).side = side x s := by rw [face_eq]
  have hsv : (side x s).ctx.serving = (s.cxm.get x).serving := by rw [side_eq]; rfl
  have hres := reselect_none k (x := x) (by rcases hc with hc | hc <;> simp [hc])
  have hface : face x (updCtx x armContext (setHandover x (some (armedRecord b o h)) s)) =
      { face x s with side := { side x s with ctx := armContext (side x s).ctx, phase := some .armed },
                      duty := some (armedRecord b o h).duty } := by
    rw [face_eq, face_eq, side_eq, side_eq]
    simp [setHandover, dropLevel_armContext, armedRecord]
    rfl
  have hsize : (face x (updCtx x armContext (setHandover x (some (armedRecord b o h)) s))).size = (face x s).size := by
    rw [hface, Face.size, Face.size, hduty]; rfl
  refine ringsOk_change (x := x) k (by simp [face_eq, side_eq, setHandover]) rfl (fun _ ha => ha) ?_ ?_ (fun _ => hn)
  · rw [hface]
    refine ⟨Side.ok_armed (side_of_ringsOk k x) (by simpa [side_eq, dropLevel] using hc), hlaw.level, hlaw.distinct,
      hfs ▸ hlaw.apart, hfs ▸ hlaw.offCell, by rw [← hface, hsize]; exact hlaw.size, ?_, by simp [hres]⟩
    rintro d hd
    cases hd
    refine armedRecord_lawful fun h => not_serving k ?_ ht
    exact hsv ▸ h
  · rw [hsize]; exact aimed_of_ringsOk k x

/-! ### The switch of a handover -/

/-- What taking the target out of the ring leaves: `h` is the record held aside. -/
structure Aside (x : Subscription) (target : Cell) (s : State) (h : Option (Neighbour × Nat)) (v : State) : Prop where
  cxm : v.cxm = s.cxm
  tbu : v.tbu = s.tbu
  ceu : v.ceu = s.ceu
  hou : v.hou = s.hou
  engines : v.engines = s.engines
  msuOther : v.msu.get x.other = s.msu.get x.other
  aim : ∀ y n, AimedTo y n s → AimedTo y n v
  distinct : (cellsOf (v.msu.get x).ring).Nodup
  apart : target ∉ cellsOf (v.msu.get x).ring
  within : ∀ c ∈ cellsOf (v.msu.get x).ring, c ∈ cellsOf (s.msu.get x).ring
  held : ∀ m t, h = some (m, t) → m.cell = target ∧ t ≤ (v.msu.get x).ring.length
  size : (v.msu.get x).ring.length + (if h.isSome then 1 else 0) = (s.msu.get x).ring.length

theorem setAside_aside {r : HandoverRecord} (hd : (cellsOf (s.msu.get x).ring).Nodup) :
    Aside x r.duty.target s (setAside x r s).1 (setAside x r s).2 := by
  rcases setAside_cases x r s with ⟨hn, he⟩ | ⟨m, t, hm, hc, he⟩ <;> rw [he]
  · exact ⟨rfl, rfl, rfl, rfl, rfl, rfl, fun _ _ h => h, hd, hn, fun _ h => h, nofun, rfl⟩
  · obtain ⟨hnd, hout, hsub⟩ := cells_eraseIdx hd hm
    obtain ⟨ht, _⟩ := List.getElem?_eq_some_iff.1 hm
    have hring : ((voidSelection x (updMsu x (fun n => { n with ring := n.ring.eraseIdx t }) s)).msu.get x).ring =
        (s.msu.get x).ring.eraseIdx t := by simp [voidSelection]
    have hlen : ((s.msu.get x).ring.eraseIdx t).length + 1 = (s.msu.get x).ring.length :=
      List.length_eraseIdx_add_one ht
    refine ⟨rfl, rfl, rfl, rfl, rfl, by simp [voidSelection], fun y n h => ?_, ?_, ?_, ?_, ?_, ?_⟩
    · rcases sub_cases x y with rfl | rfl
      · refine aimed_voided ?_ (by simpa using h.2.1)
        have hle := h.1
        simp only [updMsu_msu, PerSub.get_upd_self]
        omega
      · simpa [AimedTo, voidSelection] using h
    · rw [hring]; exact hnd
    · rw [hring, ← hc]; exact hout
    · rw [hring]; exact hsub
    · rintro m' t' hm'
      cases hm'
      rw [hring]
      exact ⟨hc, by omega⟩
    · rw [hring]; exact hlen

/-- Only a subscription in HANDOVER has the fallback timebase. -/
theorem fallback_not_mine {y : Subscription} (k : ringsOk s = true) (h : (s.cxm.get y).state ≠ .handover) :
    (s.tbu.fallback.map (·.1) == some y) = false := by
  have hk := side_of_ringsOk k y
  rw [side_eq] at hk
  simp only [Side.ok, Bool.and_eq_true, beq_iff_eq] at hk
  obtain ⟨⟨⟨⟨⟨_, hph⟩, hf⟩, _⟩, _⟩, _⟩ := hk
  have hnone : (s.hou.get y).record = none := by
    rw [show (dropLevel (s.cxm.get y)).state = (s.cxm.get y).state from rfl, decide_eq_false h] at hph
    simpa using hph
  rw [hf, hnone]; rfl

theorem Side.ok_switched {d : Side} {c : Cell} {r : Option Timebase} (h : d.ok = true) (hs : d.ctx.state = .handover)
    (hr : r.isSome = true) (hw : slewOk r = true) :
    ({ d with ctx := { d.ctx with serving := some c }, record := r, fallback := true,
              phase := some .switched } : Side).ok = true := by
  simp_all [Side.ok]

/-- R152: an armed handover is switched. -/
theorem ringsOk_switchHandover {r : HandoverRecord} {b : Timebase} (k : ringsOk s = true)
    (hr : (s.hou.get x).record = some r) (hp : r.phase = .armed) : ringsOk (switchHandover x r b s) = true := by
  obtain ⟨c, H⟩ := inHandover k hr
  have hheld : r.held = none := by
    have h := (H.duty.armed hp).1
    simpa [HandoverRecord.duty] using h
  unfold switchHandover; dsimp only
  have hbase : base (flushSub x (deactivate x .meas (deactivate x .page
      (setFallback (some (x, { b with slew := none })) s)))) = base (setFallback (some (x, { b with slew := none })) s) := by
    simp
  have haim (y : Subscription) (n : Nat) (h : AimedTo y n s) : AimedTo y n (flushSub x (deactivate x .meas
      (deactivate x .page (setFallback (some (x, { b with slew := none })) s)))) :=
    aimed_flushSub _ _ (aimed_deactivate _ _ _ (aimed_deactivate _ _ _ h))
  obtain ⟨wcxm, wtbu, wceu, whou, weng, wring⟩ := kept_of_base hbase
  generalize flushSub x _ = w at *
  replace wring (y : Subscription) : (w.msu.get y).ring = (s.msu.get y).ring := wring y
  have A := setAside_aside (x := x) (r := r) (s := reanchor x r.fnNew (ltAddInt b.ltRef r.offset) w)
    (by simpa [reanchor, realign, wring] using H.distinct)
  generalize (setAside x r (reanchor x r.fnNew (ltAddInt b.ltRef r.offset) w)).1 = h at *
  generalize (setAside x r (reanchor x r.fnNew (ltAddInt b.ltRef r.offset) w)).2 = v at *
  generalize hr' : ({ r with phase := .switched, fallbackCell := _, held := h, confirm := _ } : HandoverRecord) = r'
  generalize hu : setServing x _ _ _ = u
  have hlaw : ringsOk u = true := by
    have hfs : (face x s).side = side x s := by rw [face_eq]
    have hno : (s.tbu.fallback.map (·.1) == some x.other) = false :=
      fallback_not_mine k (other_not_handover k H.state)
    have hvring : (v.msu.get x).ring.length + (if h.isSome then 1 else 0) = (s.msu.get x).ring.length := by
      rw [A.size]; simp [reanchor, realign, wring]
    have hface : face x u =
        { side := { side x s with ctx := { (side x s).ctx with serving := some r.duty.target }, record := u.tbu.record.get x,
                                  fallback := true, phase := some .switched },
          stray := false, duty := some r'.duty, reselect := (face x s).reselect, cells := cellsOf (v.msu.get x).ring } := by
      subst hu
      rw [face_eq, face_eq, side_eq, side_eq]
      subst hr'
      simp [setServing, setHandover, A.cxm, A.tbu, A.ceu, A.hou, reanchor, realign, wcxm, wtbu, wceu, whou, setFallback, dropLevel,
        HandoverRecord.duty, cellsOf]
    have hsize : (face x u).size = (face x s).size := by
      rw [hface, size_eq, hr, ← hvring]
      subst hr'
      simp [Face.size, HandoverRecord.duty, cellsOf, hheld]
    refine ringsOk_change (x := x) k ?_ ?_ ?_ ?_ ?_ ?_
    · subst hu
      rw [face_eq, face_eq, side_eq, side_eq]
      simp [setServing, setHandover, A.cxm, A.tbu, A.ceu, A.hou, A.msuOther, reanchor, realign, wcxm, wtbu, wceu, whou, wring,
        setFallback, hno, (other_ne x).symm]
    · subst hu; exact A.engines.trans weng
    · subst hu
      intro n hn
      exact A.aim _ _ (by simpa using haim _ _ hn)
    · rw [hface]
      refine ⟨?_, rfl, A.distinct, ?_, nofun, by rw [← hface, hsize]; exact (lawful_of_ringsOk k x).size, ?_, ?_⟩
      · have hrec : u.tbu.record.get x = some { fnRef := r.fnNew, ltRef := ltAddInt b.ltRef r.offset, slew := none } := by
          subst hu
          simp [setServing, setHandover, A.tbu, reanchor, realign]
        rw [hrec]
        exact Side.ok_switched (side_of_ringsOk k x) (by simpa [side_eq, dropLevel] using H.state) rfl rfl
      · rintro _ hc
        cases hc
        exact A.apart
      · rintro d hd
        cases hd
        have hin (c' : Cell) (hc' : c' ∈ cellsOf (v.msu.get x).ring) : c' ∈ cellsOf (s.msu.get x).ring := by
          have hw := A.within c' hc'
          simpa [reanchor, realign, wring] using hw
        subst hr'
        refine ⟨?_, rfl, nofun, fun _ => rfl, ?_, ?_⟩
        · simp [HandoverRecord.duty, H.serving]
        · rintro - c' hc'
          have hcc : c = c' := by simpa [HandoverRecord.duty, H.serving] using hc'
          subst hcc
          refine ⟨fun he => (H.duty.armed hp).2 (congrArg some he), fun hm => H.apart (hin _ hm)⟩
        · rintro - c' p hc'
          obtain ⟨⟨m, t⟩, hm, he⟩ := Option.map_eq_some_iff.1 hc'
          cases he
          rw [cellsOf, List.length_map]
          exact A.held m _ hm
      · rw [reselect_none k (by simp [H.state])]
        exact nofun
    · rw [hsize]
      subst hu
      exact A.aim _ _ (by simpa using haim _ _ (aimed_of_ringsOk k x))
    · exact fun _ => other_not_handover k H.state
  refine ringsOk_of_base (base_notify _ _ _) (fun y n h => by simpa using h) ?_
  split
  · refine ringsOk_of_view ((congrArg Base.view (base_rematerialise _ _ _ _)).trans (view_setResume _ _ _))
      (fun y n h => aimed_rematerialise _ _ _ _ (by simpa using h)) hlaw
  · exact hlaw

/-! ### The switch of a reselection -/

theorem Side.ok_reselected {d : Side} {c : Cell} {l : Option Int} {r : Option Timebase} (h : d.ok = true)
    (hs : d.ctx.state = .camped) (hr : r.isSome = true) (hw : slewOk r = true) :
    ({ d with ctx := { d.ctx with serving := some c, level := l }, record := r, reselect := false } : Side).ok = true := by
  simp_all [Side.ok]

@[simp] theorem base_voidPrepared (x : Subscription) (s : State) : base (voidPrepared x s) = base s := by
  unfold voidPrepared; split <;> simp

/-- R161: a reselection is carried out. -/
theorem ringsOk_switchReselect {r : ReselectRecord} {b : Timebase} (k : ringsOk s = true)
    (hr : (s.hou.get x).reselect = some r) : ringsOk (switchReselect x r b s) = true := by
  have hst : (s.cxm.get x).state = .camped := by
    by_contra hn
    have hnone := reselect_none k hn
    rw [face_eq] at hnone
    simp [hr] at hnone
  have hon : onCell (s.cxm.get x) = true := by simp [onCell, hst]
  obtain ⟨hduty, hrec, hsv⟩ := onCell_face k hon
  obtain ⟨c, hc⟩ := Option.isSome_iff_exists.1 hsv
  have hlaw := lawful_of_ringsOk k x
  have hsize := hlaw.size
  rw [size_eq, hrec] at hsize
  have hdist : (cellsOf (s.msu.get x).ring).Nodup := by
    have hd := hlaw.distinct
    rwa [face_eq] at hd
  have hne : c ≠ r.target := by
    have hr' := hlaw.reselect r.target (by simp [face_eq, hr])
    rw [face_eq, side_eq] at hr'
    rintro rfl
    exact hr' hc
  have hsz : (s.msu.get x).ring.length ≤ 16 := by simpa using hsize
  have hout : c ∉ cellsOf (s.msu.get x).ring := not_serving k hc
  obtain ⟨hsd, hst', hsl, hsg⟩ := cells_swapped (o := oldServing c (s.cxm.get x).level r.offset) (tag := r.tag)
    (channel := r.channel) hdist hout hne hsz
  unfold switchReselect; dsimp only
  rw [hc]; dsimp only
  have hbase : base (flushSub x s) = base s := by simp
  have haim (y : Subscription) (n : Nat) (h : AimedTo y n s) : AimedTo y n (flushSub x s) := aimed_flushSub _ _ h
  obtain ⟨_, hptr, _⟩ := haim _ _ (aimed_size k hon)
  obtain ⟨wcxm, wtbu, wceu, whou, weng, wring⟩ := kept_of_base hbase
  generalize flushSub x s = w at *
  rw [swapRing_eq]
  generalize hv : voidSelection x (updCtx x _ _) = v
  have hvaim (y : Subscription) (n : Nat) (h : AimedTo y n v) : AimedTo y n (rematerialise x .meas none
      (rematerialise x .page none (applyStagedPaging x (voidPrepared x v)))) :=
    aimed_rematerialise _ _ _ _ (aimed_rematerialise _ _ _ _ (by simp [h]))
  refine ringsOk_of_base (s := updHou x (fun h => { h with reselect := none }) v)
    ((base_notify _ _ _).trans (base_updHou_congr (by simp))) (fun y n h => ?_) ?_
  · rw [aimed_notify]
    exact hvaim y n h
  have hring : (v.msu.get x).ring =
      swapped r.tag r.channel (oldServing c (s.cxm.get x).level r.offset) (s.msu.get x).ring := by
    subst hv
    simp [voidSelection, setServing, reanchor, realign, wring]
  have hrv : (v.tbu.record.get x) = some { fnRef := r.fnNew, ltRef := ltAddInt b.ltRef r.offset, slew := none } := by
    subst hv
    simp [voidSelection, setServing, reanchor, realign]
  have hsize' : (face x (updHou x (fun h => { h with reselect := none }) v)).size = (v.msu.get x).ring.length := by
    subst hv
    simp [size_eq, voidSelection, setServing, reanchor, realign, whou, hrec]
  have hface : face x (updHou x (fun h => { h with reselect := none }) v) =
      { side := { side x s with ctx := { (side x s).ctx with serving := some r.target }, record := v.tbu.record.get x,
                                reselect := false },
        stray := false, duty := none, reselect := none, cells := cellsOf (v.msu.get x).ring } := by
    subst hv
    rw [face_eq, side_eq, side_eq]
    simp [voidSelection, setServing, reanchor, realign, wcxm, wtbu, wceu, whou, dropLevel, hrec, ReselectRecord.target, cellsOf]
  refine ringsOk_change (x := x) k ?_ ?_ ?_ ?_ ?_ ?_
  · subst hv
    rw [face_eq, face_eq, side_eq, side_eq]
    simp [voidSelection, setServing, reanchor, realign, wcxm, wtbu, wceu, whou, wring]
  · subst hv; exact weng
  · subst hv
    intro n h
    have := haim _ _ h
    simpa [AimedTo, voidSelection, setServing, reanchor, realign] using this
  · rw [hface]
    refine ⟨?_, rfl, hring ▸ hsd, ?_, nofun, ?_, nofun, nofun⟩
    · rw [hrv]
      exact Side.ok_reselected (side_of_ringsOk k x) (by simpa [side_eq, dropLevel] using hst) rfl rfl
    · rintro _ ht
      cases ht
      rw [hring]; exact hst'
    · rw [← hface, hsize', hring]; exact hsl
  · rw [hsize', hring]
    subst hv
    refine (aimed_updHou _ _ _).2 (aimed_voided (by simp [setServing, reanchor, realign, wring]) ?_)
    simp only [updCtx_msu, updMsu_msu, PerSub.get_upd_self]
    exact lt_of_lt_of_le hptr (by omega)
  · subst hv
    simp [voidSelection, setServing, reanchor, realign, wcxm, hst]

end

end Sys2Proof.Machine
end

section
/-! SUPPORT. The events keep the law of the rings: frame starts (R5, R6), deadlines (R26, R118, R157), the catch-up at the end of
a slumber (R3), the link, the sequence of the plan, the clock and the battery. -/

namespace Sys2Proof.Machine

section
variable {x : Subscription} {s : State}

/-! ### Frame starts -/

/-- R5: the record advances. -/
theorem ringsOk_advance {b : Timebase} (k : ringsOk s = true) (hb : s.tbu.record.get x = some b) :
    ringsOk (updRecord x (some (advance b)) s) = true := by
  refine ringsOk_of_side (x := x) k rfl (by simp [side_eq]) rfl rfl (fun _ => rfl) (fun _ _ h => h) ?_ rfl rfl (fun h => h)
  rw [side_updRecord]
  exact Side.ok_record (side_of_ringsOk k x) (by simp [side_eq, hb]) rfl

theorem ringsOk_signalFrame (k : ringsOk s = true) : ringsOk (signalFrame x s) = true :=
  ringsOk_of_view (view_signalFrame x s) (fun _ _ => aimed_signalFrame x s) k

theorem ringsOk_switchHere {b : Timebase} (k : ringsOk s = true) : ringsOk (switchHere x b s) = true := by
  unfold switchHere switchAt
  split
  · rename_i r hr
    obtain ⟨hr, hp⟩ := Option.filter_eq_some_iff.1 hr
    simp only [Bool.and_eq_true, beq_iff_eq] at hp
    exact ringsOk_switchHandover k hr hp.1
  · exact k

/-- R5: a frame start. -/
theorem ringsOk_takeFrameStart (k : ringsOk s = true) : ringsOk (takeFrameStart x s) = true := by
  unfold takeFrameStart
  split
  · rename_i b hb
    have ht := ringsOk_advance k hb
    dsimp only
    split
    · rename_i r hr
      exact ringsOk_signalFrame (ringsOk_switchReselect ht (Option.filter_eq_some_iff.1 hr).1)
    · exact ringsOk_signalFrame (ringsOk_switchHere
        (ringsOk_of_base (base_bringSlew _ _ _) (fun _ _ h => aimed_bringSlew _ _ _ h) ht))
  · exact k

/-- R6: the fallback timebase advances, and stays the same subscription's. -/
theorem ringsOk_takeFallbackStart (k : ringsOk s = true) : ringsOk (takeFallbackStart s) = true := by
  unfold takeFallbackStart
  split
  · rename_i y b hb
    refine ringsOk_of_view (s := s) (view_ext (fun z => ?_) rfl) (fun _ _ h => h) k
    simp [face_eq, side_eq, setFallback, hb]
  · exact k

/-! ### Deadlines -/

theorem ringsOk_endExch (k : ringsOk s = true) : ringsOk (endExchEntries x s) = true :=
  ringsOk_of_base (base_endExchEntries _ _) (fun _ _ h => aimed_endExchEntries _ _ h) k

/-- R26, R106: the exchange deadline. -/
theorem ringsOk_expireExchange {d : LT} (k : ringsOk s = true) (h : (s.cxm.get x).state = .exchange) :
    ringsOk (expireExchange x d s) = true := by
  have hb : base (notifyAt x d (.exchangeExpired (s.cxm.get x).purpose) (endExchEntries x s)) = base s := by simp
  unfold expireExchange
  exact ringsOk_leaveContext (ringsOk_of_base hb (fun _ _ h => by simp [h]) k) (by rw [cxm_of_base hb]; exact h)

theorem ringsOk_leaseDeadline {d : LT} (k : ringsOk s = true) (h : inCall (s.cxm.get x) = true) :
    ringsOk (endCall x (tellLeaseLost x d) s) = true :=
  ringsOk_endCall k h (fun u => by simp [tellLeaseLost]) (fun _ _ u h => by simpa [tellLeaseLost] using h)

/-- R3: what a jump of LT has passed is taken. -/
theorem ringsOk_takePassed (p : Passed) (k : ringsOk s = true) : ringsOk (takePassed p s) = true := by
  cases p with
  | frame x => exact ringsOk_takeFrameStart k
  | fallback => exact ringsOk_takeFallbackStart k
  | exchange x =>
    simp only [takePassed, exchangeDue]
    split
    · rename_i d hd
      obtain ⟨⟨_, hst⟩, _⟩ := Option.ite_none_right_eq_some.1 hd
      exact ringsOk_expireExchange k hst
    · exact k
  | lease x =>
    simp only [takePassed, leaseDue]
    split
    · rename_i d hd
      obtain ⟨⟨_, hst⟩, _⟩ := Option.ite_none_right_eq_some.1 hd
      exact ringsOk_leaseDeadline k hst
    · exact k
  | confirm x =>
    simp only [takePassed, confirmDue]
    split
    · rename_i r hr
      obtain ⟨_, hr⟩ := Option.ite_none_right_eq_some.1 hr
      obtain ⟨hr, hp⟩ := Option.filter_eq_some_iff.1 hr
      simp only [Bool.and_eq_true, beq_iff_eq] at hp
      exact ringsOk_revertHandover k hr hp.1
    · exact k
  | lost x q =>
    simp only [takePassed]
    split
    · exact ringsOk_of_base (base_lostEnded _ _ _ _) (fun _ _ h => by simpa using h) k
    · exact k
  | probe => exact ringsOk_of_base rfl (fun _ _ h => h) k
  | cal => exact ringsOk_of_view (view_updCsc _ _) (fun _ _ h => h) k
  | wake => exact ringsOk_of_base (base_wakeUp _) (fun _ _ h => by simpa [takePassed] using h) k

theorem chooseOne_ringsOk {α : Type} {l : List α} {s t : State} {a : α} (h : chooseOne l s = some (a, t)) (k : ringsOk s = true) :
    a ∈ l ∧ ringsOk t = true := by
  unfold chooseOne at h
  split at h
  · cases h
  · cases h; exact ⟨List.mem_singleton_self _, k⟩
  · obtain ⟨v, hv, he⟩ := Option.map_eq_some_iff.1 h
    cases he
    exact ⟨List.mem_of_getElem? hv, ringsOk_of_view (s := s) rfl (fun _ _ h => h) k⟩

theorem ringsOk_takeAllPassed (l : List Passed) (n : Nat) (k : ringsOk s = true) : ringsOk (takeAllPassed l n s) = true := by
  induction n generalizing s with
  | zero => exact k
  | succ n ih =>
    rw [takeAllPassed]
    split
    · rename_i p t hc
      exact ih (ringsOk_takePassed p (chooseOne_ringsOk hc k).2)
    · exact k

/-! ### Slumber, clock and battery -/

@[simp] theorem view_thriftTest (s : State) : (base (thriftTest s)).view = (base s).view := by
  unfold thriftTest thriftBegins
  dsimp only
  split
  · rw [base_forEntries (fun e s => by unfold thriftEntry; (repeat' split) <;> simp)]
    rfl
  · rfl

theorem ringsOk_thriftTest (k : ringsOk s = true) : ringsOk (thriftTest s) = true :=
  ringsOk_of_view (view_thriftTest s) (fun _ _ h => aimed_thriftTest s h) k

theorem ringsOk_tellBatteries (l : List (Battery × Battery)) (k : ringsOk s = true) : ringsOk (tellBatteries l s) = true := by
  induction l generalizing s with
  | nil => exact k
  | cons c l ih =>
    exact ih (ringsOk_of_base (base_notifyBare _ _ _) (fun _ _ h => by simpa [tellBattery] using h) k)

theorem ringsOk_heldChanges (k : ringsOk s = true) : ringsOk (heldChanges s) = true :=
  ringsOk_thriftTest (ringsOk_of_view (view_updCsc _ _) (fun _ _ h => h) (ringsOk_tellBatteries _ k))

/-- R171: the last edge of a slumber. -/
theorem ringsOk_endSlumber (r : SlumberRecord) (k : ringsOk s = true) : ringsOk (endSlumber r s) = true := by
  have hr : ringsOk (restoreLt r s) = true := ringsOk_of_view (s := s) rfl (fun _ _ h => h) k
  unfold endSlumber; dsimp only
  refine ringsOk_heldChanges (ringsOk_of_view (view_updCsc _ _) (fun _ _ h => h) ?_)
  split
  · exact ringsOk_of_base (base_materialiseAll _) (fun _ _ h => aimed_materialiseAll _ h)
      (ringsOk_takeAllPassed _ _ (ringsOk_takeAllPassed _ _ hr))
  · exact hr

theorem ringsOk_wakeEvent (c : WakeCause) (k : ringsOk s = true) : ringsOk (wakeEvent c s) = true := by
  unfold wakeEvent; split
  · exact ringsOk_of_base (s := s) rfl (fun _ _ h => h) k
  · exact k

end

end Sys2Proof.Machine
end

section
/-! SUPPORT. Every request keeps the law of the rings: what its reply leaves. -/

namespace Sys2Proof.Machine

section
variable {x : Subscription} {s : State}

theorem Reply.after_accept (st : Status) (b : Body) (s t : State) : (Reply.accept st b t).after s = t := rfl

/-! ### Requests of the contexts -/

theorem ringsOk_activateReply (k : ringsOk s = true) : ringsOk ((activateReply x s).after s) = true := by
  unfold activateReply; split
  · rename_i h; exact ringsOk_searching k h
  · exact k

theorem ringsOk_shutDown (k : ringsOk s = true) : ringsOk (shutDown x s) = true := by
  unfold shutDown; split
  · exact k
  · exact ringsOk_teardown k (.inl rfl)

theorem ringsOk_loseServiceReply (k : ringsOk s = true) : ringsOk ((loseServiceReply x s).after s) = true := by
  unfold loseServiceReply; split
  · exact k
  · rw [Reply.after_accept]; exact ringsOk_teardown k (.inr rfl)

theorem ringsOk_campReply {b : CampBody} (k : ringsOk s = true) : ringsOk ((campReply x b s).after s) = true := by
  unfold campReply; split
  · exact k
  · rename_i h
    split
    · rw [Reply.after_accept]; exact ringsOk_campOn k (not_not.1 h)
    · exact k

theorem readContextReply_after (q : Port) (who : Coded Subscription) (s : State) :
    (readContextReply q who s).after s = s := by
  unfold readContextReply; (repeat' split) <;> rfl

theorem ringsOk_enterExchangeReply {p : Option Purpose} {n : Nat} (k : ringsOk s = true) :
    ringsOk ((enterExchangeReply x p n s).after s) = true := by
  unfold enterExchangeReply; split
  · exact k
  · rename_i h
    rw [not_or, not_not, Bool.not_eq_true, Option.isSome_eq_false_iff, Option.isNone_iff_eq_none] at h
    cases p with
    | none => exact k
    | some v =>
      dsimp only; split
      · exact ringsOk_enterExchange k h.1 h.2
      · exact k

theorem ringsOk_renewExchangeReply {p : Coded Purpose} {n : Nat} (k : ringsOk s = true) :
    ringsOk ((renewExchangeReply x p n s).after s) = true := by
  unfold renewExchangeReply; split
  · exact k
  · rename_i h
    split
    · rw [Reply.after_accept]
      cases p with
      | val v => exact ringsOk_renewExchange (p := fun _ => some v) k (not_not.1 h) (fun _ => rfl)
      | absent => exact ringsOk_renewExchange (p := fun c => c.purpose) k (not_not.1 h) (fun h => h)
      | unknown => exact ringsOk_renewExchange (p := fun c => c.purpose) k (not_not.1 h) (fun h => h)
    · exact k

theorem ringsOk_leaveExchangeReply (k : ringsOk s = true) : ringsOk ((leaveExchangeReply x s).after s) = true := by
  unfold leaveExchangeReply; split
  · rename_i h
    exact ringsOk_leaveContext (ringsOk_endExch k) (by rw [cxm_of_base (base_endExchEntries x s)]; exact h)
  · exact k

/-! ### Requests of a call -/

theorem ringsOk_startCallReply {p : CallPattern} {n : Nat} (k : ringsOk s = true) :
    ringsOk ((startCallReply x p n s).after s) = true := by
  unfold startCallReply
  split
  · exact k
  · rename_i h
    (repeat' split) <;> try exact k
    rename_i hc _
    exact ringsOk_startCall k (not_not.1 h) hc

theorem ringsOk_modifyCallReply {p : CallPattern} (k : ringsOk s = true) : ringsOk ((modifyCallReply x p s).after s) = true := by
  unfold modifyCallReply; (repeat' split) <;> try exact k
  exact ringsOk_of_view (s := s) (view_updCeu rfl rfl) (fun _ _ h => h) k

theorem ringsOk_renewHoldReply {n : Nat} (k : ringsOk s = true) : ringsOk ((renewHoldReply x n s).after s) = true := by
  unfold renewHoldReply; split
  · exact k
  · rename_i h
    split
    · exact ringsOk_renewHold k (by simpa using h)
    · exact k

theorem ringsOk_endCallReply (k : ringsOk s = true) : ringsOk ((endCallReply x s).after s) = true := by
  unfold endCallReply; split
  · rename_i h
    exact ringsOk_endCall k h (fun u => by simp) (fun _ _ u h => by simpa using h)
  · exact k

/-! ### Requests of the rings -/

theorem ringsOk_setMeas {b : MeasBody} (k : ringsOk s = true) : ringsOk (setMeas x b s) = true := by
  unfold setMeas; dsimp only
  have ht : ringsOk (updMsu x (fun m => { m with config := some { period := b.period, fp := b.fp, length := b.length },
                                                 settings := newSettings b m.settings }) s) = true :=
    ringsOk_sameCells k rfl rfl
  have hp {u : State} (h : ringsOk u = true) : ringsOk (placeMeas x u) = true := by
    unfold placeMeas; (repeat' split)
    · exact ringsOk_of_base (base_rematerialise _ _ _ _) (fun _ _ h => aimed_rematerialise _ _ _ _ h) h
    · exact ringsOk_of_base (base_activate _ _ _) (fun _ _ h => aimed_activate _ _ _ h) h
    · exact h
  refine ringsOk_of_view (view_bankSwitch _ _) (fun _ _ h => aimed_bankSwitch _ _ h) (ringsOk_sameCells (hp ht) ?_ rfl)
  rw [List.map_map]
  rfl

theorem ringsOk_setMeasReply {b : MeasBody} (k : ringsOk s = true) : ringsOk ((setMeasReply x b s).after s) = true := by
  unfold setMeasReply; dsimp only; (repeat' split) <;> try exact k
  exact ringsOk_setMeas k

theorem ringsOk_setNeighboursReply {l : List NeighbourSpec} (k : ringsOk s = true) (hl : l.length ≤ 16) :
    ringsOk ((setNeighboursReply x l s).after s) = true := by
  unfold setNeighboursReply
  split
  · exact k
  · rename_i hc
    (repeat' split) <;> try exact k
    rename_i hs hd
    exact ringsOk_setNeighbours k (by simpa using hc) (Bool.eq_false_iff.2 hs) (Bool.eq_false_iff.2 hd) hl

theorem ringsOk_addNeighbourReply {r : NeighbourSpec} (k : ringsOk s = true) :
    ringsOk ((addNeighbourReply x r s).after s) = true := by
  unfold addNeighbourReply; dsimp only
  split
  · exact k
  · rename_i hc
    (repeat' split) <;> try exact k
    rename_i hs hd hl
    exact ringsOk_addNeighbour k (by simpa using hc) (Bool.eq_false_iff.2 hs) (Bool.eq_false_iff.2 hd) (Nat.lt_of_not_le hl)

theorem ringsOk_removeNeighbourReply {t c : Nat} (k : ringsOk s = true) :
    ringsOk ((removeNeighbourReply x t c s).after s) = true := by
  unfold removeNeighbourReply
  split
  · exact k
  · rename_i hc
    (repeat' split) <;> try exact k
    rename_i j hj
    exact ringsOk_removeAt k (by simpa using hc) (positionOf_some hj).choose_spec.2.2

theorem ringsOk_setClassReply {t c n : Nat} (k : ringsOk s = true) : ringsOk ((setClassReply x t c n s).after s) = true := by
  unfold setClassReply; (repeat' split) <;> try exact k
  refine ringsOk_sameCells k ?_ rfl
  rw [List.map_map]
  refine List.map_congr_left fun m _ => ?_
  simp only [Function.comp, setClassAt]
  split <;> rfl

theorem ringsOk_releaseBankReply (k : ringsOk s = true) : ringsOk ((releaseBankReply x s).after s) = true := by
  unfold releaseBankReply; (repeat' split) <;> try exact k
  refine ringsOk_of_view (view_bankSwitch _ _) (fun _ _ h => aimed_bankSwitch _ _ h) (ringsOk_sameCells k ?_ ?_)
  · rw [setBank_ring]
  · unfold setBank; split <;> rfl

theorem readBankReply_after (x : Subscription) (s : State) : (readBankReply x s).after s = s := by
  unfold readBankReply; (repeat' split) <;> rfl

/-- R140, R154: an acknowledgement keeps the cells of the ring and of the record held aside. -/
theorem ringsOk_ackRecords {t : Nat} {c : Option Nat} (k : ringsOk s = true) : ringsOk (ackRecords x t c s) = true := by
  have hcell (m : Neighbour) : (acknowledge t c m).cell = m.cell := by
    unfold acknowledge; split <;> rfl
  have hd (r : HandoverRecord) : (ackHeld t c r).duty = r.duty := by
    simp [ackHeld, HandoverRecord.duty, Function.comp_def, hcell]
  have hp (r : HandoverRecord) : (ackHeld t c r).phase = r.phase := rfl
  have hs : ringsOk (updMsu x (fun m => { m with ring := m.ring.map (acknowledge t c) }) s) = true :=
    ringsOk_sameCells k (by simp [Function.comp_def, hcell]) rfl
  unfold ackRecords
  refine ringsOk_of_view ?_ (fun _ _ h => (aimed_updHou _ _ _).2 h) hs
  refine view_ext (fun y => ?_) rfl
  rw [face_eq, face_eq, side_eq, side_eq]
  by_cases hy : y = x
  · subst hy; simp [Function.comp_def, hd, hp]
  · simp [PerSub.get_upd, hy]

theorem ringsOk_ackCandidateReply {t : Nat} {c : Option Nat} (k : ringsOk s = true) :
    ringsOk ((ackCandidateReply x t c s).after s) = true := by
  unfold ackCandidateReply; (repeat' split) <;> try exact k
  exact ringsOk_ackRecords k

/-! ### Requests of the handover -/

theorem ringsOk_admitted {m : Bool} {ms : List Entry} {hs : List Handle} {t : State} (k : ringsOk s = true)
    (h : admitEntries m ms s = .admitted hs t) : ringsOk t = true ∧ t.cxm = s.cxm ∧
      ∀ y, (t.msu.get y).ring = (s.msu.get y).ring := by
  have hb := base_admit m ms s
  rw [h] at hb
  exact ⟨ringsOk_of_base hb (fun _ _ ha => aimed_admitted h ha) k, cxm_of_base hb, ring_of_base hb⟩

theorem ringsOk_reselectReply {b : ReselectBody} (k : ringsOk s = true) : ringsOk ((reselectReply x b s).after s) = true := by
  unfold reselectReply; split
  · exact k
  · rename_i h
    rw [not_or, not_not] at h
    (repeat' split) <;> try exact k
    rename_i o ho
    exact ringsOk_reselect k h.1 (targetOffset_mem ho)

/-- The answer of HANDOVER_ARM to the verdict on its SYNC (R148, R149). -/
def syncAnswer (x : Subscription) (b : ArmBody) (offset : Int) (e : Entry) : Verdict → Reply
  | .admitted (h :: _) t =>
    .accept .ok (.armed h e.start e.stop) (updCtx x armContext (setHandover x (some (armedRecord b offset h)) t))
  | _ => .refuse .conflict

theorem offerSync_eq (x : Subscription) (b : ArmBody) (tb : Timebase) (o : Int) (s : State) : offerSync x b tb o s =
    syncAnswer x b o (syncEntry x b (syncStart tb (frameDist tb (toFN b.fnS)) o) s)
      (admitEntries false [syncEntry x b (syncStart tb (frameDist tb (toFN b.fnS)) o) s] s) := rfl

theorem ringsOk_syncAnswer {b : ArmBody} {o : Int} {e : Entry} {v : Verdict} (k : ringsOk s = true)
    (hv : admitEntries false [e] s = v)
    (hc : (s.cxm.get x).state = .exchange ∨ (s.cxm.get x).state = .call) (hn : (s.cxm.get x.other).state ≠ .handover)
    (ho : targetOffset x b.tag b.channel s = some o) : ringsOk ((syncAnswer x b o e v).after s) = true := by
  unfold syncAnswer
  split
  · obtain ⟨kt, hcxm, hring⟩ := ringsOk_admitted k hv
    rw [Reply.after_accept]
    exact ringsOk_armed kt (hcxm ▸ hc) (hcxm ▸ hn) (hring x ▸ targetOffset_mem ho)
  · exact k

theorem ringsOk_armReply {b : ArmBody} (k : ringsOk s = true) : ringsOk ((armReply x b s).after s) = true := by
  unfold armReply; dsimp only
  split
  · exact k
  · rename_i hc
    split
    · exact k
    · rename_i hn
      (repeat' split) <;> try exact k
      rename_i o ho
      rw [offerSync_eq]
      exact ringsOk_syncAnswer k rfl (by simpa [or_iff_not_imp_left] using hc) hn ho

theorem handoverIn_some {p : HoPhase} {r : HandoverRecord} (h : handoverIn x p s = some r) :
    (s.hou.get x).record = some r ∧ r.phase = p := by
  obtain ⟨_, h⟩ := Option.ite_none_right_eq_some.1 h
  obtain ⟨hr, hp⟩ := Option.filter_eq_some_iff.1 h
  exact ⟨hr, by simpa using hp⟩

theorem ringsOk_handoverCancelReply (k : ringsOk s = true) : ringsOk ((handoverCancelReply x s).after s) = true := by
  unfold handoverCancelReply; split
  · rename_i r h
    obtain ⟨hr, hp⟩ := handoverIn_some h
    exact ringsOk_cancelHandover k hr hp
  · exact k

theorem ringsOk_handoverConfirmReply (k : ringsOk s = true) : ringsOk ((handoverConfirmReply x s).after s) = true := by
  unfold handoverConfirmReply; split
  · rename_i r h
    obtain ⟨hr, hp⟩ := handoverIn_some h
    exact ringsOk_confirmHandover k hr hp
  · exact k

theorem ringsOk_handoverFailReply (k : ringsOk s = true) : ringsOk ((handoverFailReply x s).after s) = true := by
  unfold handoverFailReply; split
  · rename_i r h
    obtain ⟨hr, hp⟩ := handoverIn_some h
    exact ringsOk_revertHandover k hr hp
  · exact k

/-! ### Requests of paging, plan, timing and policy -/

theorem ringsOk_stagePagingReply {c : PagingConfig} (k : ringsOk s = true) :
    ringsOk ((stagePagingReply x c s).after s) = true := by
  unfold stagePagingReply; (repeat' split) <;> try exact k
  unfold stagePaging Reply.after; dsimp only; split
  · exact ringsOk_of_base (base_activate _ _ _) (fun _ _ h => aimed_activate _ _ _ h)
      (ringsOk_of_base (s := s) (base_updPgu _ _ _) (fun _ _ h => h) k)
  · exact ringsOk_of_base (s := s) (base_updPgu _ _ _) (fun _ _ h => h) k

theorem ringsOk_pageResultReply {r : Option PageOutcome} (k : ringsOk s = true) :
    ringsOk ((pageResultReply x r s).after s) = true := by
  unfold pageResultReply; (repeat' split) <;> try exact k
  rename_i v w _
  rw [Reply.after_accept]
  unfold tellIncoming
  refine ringsOk_of_base (s := s) ?_ (fun _ _ h => ?_) k
  · split <;> simp
  · split <;> simpa using h

theorem ringsOk_reserveReply {b : ReserveBody} (k : ringsOk s = true) : ringsOk ((reserveReply x b s).after s) = true := by
  unfold reserveReply; (repeat' split) <;> try exact k
  unfold offerOneShot; split
  · rename_i ha; exact (ringsOk_admitted k ha).1
  all_goals exact k

theorem ringsOk_cancelReply {a g : BitVec 8} (k : ringsOk s = true) : ringsOk ((cancelReply x a g s).after s) = true := by
  unfold cancelReply; (repeat' split) <;> try exact k
  rename_i e _ _
  refine ringsOk_of_base (s := s) ?_ (fun _ _ h => ?_) k
  · unfold cancelEntry Reply.after; dsimp only; split <;> simp
  · unfold cancelEntry Reply.after; dsimp only; split <;> simpa using h

theorem ringsOk_adjustTimingReply {d : Int} (k : ringsOk s = true) : ringsOk ((adjustTimingReply x d s).after s) = true := by
  unfold adjustTimingReply; (repeat' split) <;> try exact k
  rename_i b hb
  exact ringsOk_adjusted k hb

theorem ringsOk_trimReply {w : Nat} (k : ringsOk s = true) : ringsOk ((trimReply x w s).after s) = true := by
  unfold trimReply; (repeat' split)
  · exact k
  · exact ringsOk_of_view (s := s) rfl (fun _ _ h => h) k
  · exact k

theorem ringsOk_setPolicyReply {b : PolicyBody} (k : ringsOk s = true) : ringsOk ((setPolicyReply b s).after s) = true := by
  unfold setPolicyReply; split
  · exact ringsOk_thriftTest (ringsOk_of_view (s := s) rfl (fun _ _ h => h) k)
  · exact k

theorem readTimeReply_after (q : Port) (s : State) : (readTimeReply q s).after s = s := by
  unfold readTimeReply; split <;> rfl

theorem readPlanReply_after (n : Nat) (s : State) : (readPlanReply n s).after s = s := by
  unfold readPlanReply; split <;> rfl

end

end Sys2Proof.Machine
end

section
/-! SUPPORT. Every row and every step keeps the law of the rings (O11). -/

namespace Sys2Proof.Machine

section
variable {x : Subscription} {s t : State} {q : Port}

/-! ### Ports -/

/-- An engine that holds a request that fits keeps the law of the rings. -/
theorem ringsOk_setEngine {e : Engine} (k : ringsOk s = true) (h : requestFits e = true) :
    ringsOk (setEngine q e s) = true := by
  rw [ringsOk_iff] at k ⊢
  obtain ⟨hl, hx, he⟩ := k
  refine ⟨fun y => ⟨(hl y).1, (aimed_setEngine _ _ _).2 (hl y).2⟩, hx, fun p => ?_⟩
  by_cases hp : p = q
  · subst hp; simpa [setEngine] using h
  · have := he p
    simpa [setEngine, PerPort.get_set, hp] using this

/-- A request that is taken keeps the law of the rings if what its reply leaves has it. -/
theorem ringsOk_serve {r : Request} {f : State → Reply} (h : serve q r f s = .next t) (k : ringsOk s = true)
    (hf : bodyLength r ≤ 96 → ringsOk ((f s).after s) = true) : ringsOk t = true := by
  cases hp : pendingTag q r s with
  | none =>
    rw [serve_none hp] at h
    cases h; exact k
  | some tag =>
    have hfit : bodyLength r ≤ 96 := by
      unfold pendingTag at hp
      split at hp
      · rename_i req he
        obtain ⟨⟨_, rfl⟩, _⟩ := Option.ite_none_right_eq_some.1 hp
        have hq := fits_of_ringsOk k q
        rw [he] at hq
        simpa [requestFits] using hq
      · cases hp
    rw [serve_some hp] at h
    cases h
    have hu := hf hfit
    rcases reply_cases q tag s (f s) with ⟨st, hr, he⟩ | ⟨st, b, u, hr, he⟩ | ⟨st, b, u, hr, he⟩ <;>
      rw [hr] at hu <;> rw [he]
    · exact ringsOk_setEngine k rfl
    · exact ringsOk_setEngine hu rfl
    · exact ringsOk_setEngine (ringsOk_settle u hu) rfl

/-- R184, R185: a frame that passes the tests of R185 fits. -/
theorem ringsOk_requestFrameComplete {tag len : BitVec 8} {req : Option Request} (k : ringsOk s = true)
    (h : execRequestFrameComplete q tag len req s = .next t) : ringsOk t = true := by
  unfold execRequestFrameComplete at h
  split at h
  · split at h
    · rename_i r hr
      cases h
      refine ringsOk_setEngine k ?_
      unfold frameRequest at hr
      split at hr
      · obtain ⟨⟨hlen, _, hbody, _⟩, he⟩ := Option.ite_none_right_eq_some.1 hr
        cases he
        simpa [requestFits, hbody] using hlen
      · cases hr
    · cases h
      exact ringsOk_setEngine k rfl
  · cases h; exact k

/-! ### Events -/

/-- An event whose effects leave a lawful state. -/
theorem ringsOk_happened {u : State} (h : (.next (settle u) : Answered) = .next t) (k : ringsOk u = true) :
    ringsOk t = true := by
  cases h; exact ringsOk_settle u k

theorem ringsOk_happened_view {u : State} (h : (.next (settle u) : Answered) = .next t) (k : ringsOk s = true)
    (hv : (base u).view = (base s).view) (ha : ∀ y n, AimedTo y n s → AimedTo y n u) : ringsOk t = true :=
  ringsOk_happened h (ringsOk_of_view hv ha k)

theorem ringsOk_rclAck {a : AckKind} (k : ringsOk s = true) (h : execRclAck a s = .next t) : ringsOk t = true := by
  unfold execRclAck at h
  (repeat' split at h)
  · exact ringsOk_happened_view h k ((view_commandAcked _ _).trans rfl) (fun _ _ h => aimed_commandAcked _ _ h)
  all_goals cases h; exact k

theorem ringsOk_readReportAck {l m : Int} (k : ringsOk s = true) (h : execReadReportAck l m s = .next t) :
    ringsOk t = true := by
  unfold execReadReportAck at h
  split at h
  · exact ringsOk_happened_view h k ((view_reportRead _ _ _ _).trans rfl) (fun _ _ h => aimed_reportRead _ _ _ _ h)
  · cases h; exact k

theorem ringsOk_trimAck (k : ringsOk s = true) (h : execTrimAck s = .next t) : ringsOk t = true := by
  unfold execTrimAck at h
  split at h
  · dsimp only at h
    split at h <;> exact ringsOk_happened_view h k rfl (fun _ _ h => h)
  · cases h; exact k

theorem ringsOk_linkFault (k : ringsOk s = true) (h : execLinkFault s = .next t) : ringsOk t = true := by
  unfold execLinkFault at h
  split at h
  · rename_i c _
    dsimp only at h
    have hv : (base (treatFault c (faulted s))).view = (base s).view := (view_treatFault _ _).trans rfl
    have ha (y : Subscription) (n : Nat) (hy : AimedTo y n s) : AimedTo y n (treatFault c (faulted s)) :=
      aimed_treatFault _ _ hy
    split at h
    · exact ringsOk_happened_view h k ((view_radioDown _ _).trans hv) (fun y n hy => aimed_radioDown _ _ (ha y n hy))
    · exact ringsOk_happened_view h k hv ha
  · cases h; exact k

theorem ringsOk_probeTime (k : ringsOk s = true) (h : execProbeTime s = .next t) : ringsOk t = true := by
  unfold execProbeTime at h
  split at h
  · exact ringsOk_happened_view h k rfl (fun _ _ h => h)
  · cases h; exact k

theorem ringsOk_probeAck (k : ringsOk s = true) (h : execProbeAck s = .next t) : ringsOk t = true := by
  unfold execProbeAck at h
  split at h
  · exact ringsOk_happened_view h k ((view_radioUp _).trans rfl) (fun _ _ h => (aimed_radioUp _).2 h)
  · cases h; exact k

theorem ringsOk_prepareEntry (k : ringsOk s = true) (h : execPrepareEntry s = .next t) : ringsOk t = true := by
  unfold execPrepareEntry at h
  split at h
  · exact ringsOk_happened h (ringsOk_of_base (by simp) (fun _ _ h => by simp [h]) k)
  · cases h; exact k

theorem ringsOk_entryStart (k : ringsOk s = true) (h : execEntryStart s = .next t) : ringsOk t = true := by
  unfold execEntryStart at h
  split at h
  · exact ringsOk_happened h (ringsOk_of_base (by simp) (fun _ _ h => by simp [h]) k)
  · cases h; exact k

theorem ringsOk_entryEnd (k : ringsOk s = true) (h : execEntryEnd s = .next t) : ringsOk t = true := by
  unfold execEntryEnd at h
  split at h
  · exact ringsOk_happened h (ringsOk_of_base (by simp) (fun _ _ h => by simp [h]) k)
  · cases h; exact k

theorem ringsOk_gapWindowTune (k : ringsOk s = true) (h : execGapWindowTune s = .next t) : ringsOk t = true := by
  unfold execGapWindowTune at h
  split at h
  · exact ringsOk_happened h (ringsOk_of_base (by simp) (fun _ _ h => by simp [h]) k)
  · cases h; exact k

theorem ringsOk_gapWindowOn (k : ringsOk s = true) (h : execGapWindowOn s = .next t) : ringsOk t = true := by
  unfold execGapWindowOn at h
  split at h
  · exact ringsOk_happened h (ringsOk_of_base (by simp) (fun _ _ h => by simp [h]) k)
  · cases h; exact k

theorem ringsOk_gapWindowEnd (k : ringsOk s = true) (h : execGapWindowEnd s = .next t) : ringsOk t = true := by
  unfold execGapWindowEnd at h
  split at h
  · exact ringsOk_happened h (ringsOk_of_base (by simp) (fun _ _ h => by simp [h]) k)
  · cases h; exact k

theorem ringsOk_endLost {p : Pat} (k : ringsOk s = true) : ringsOk (endLost x p s) = true := by
  unfold endLost; split
  · exact ringsOk_of_base (base_lostEnded _ _ _ _) (fun _ _ h => (aimed_lostEnded _ _ _ _).2 h) k
  · exact k

theorem ringsOk_lostOccurrenceEnd {p : Pat} (k : ringsOk s = true) (h : execLostOccurrenceEnd x p s = .next t) :
    ringsOk t = true := by
  unfold execLostOccurrenceEnd at h
  split at h
  · refine ringsOk_happened h ?_
    exact ringsOk_endLost (ringsOk_endLost (ringsOk_endLost (ringsOk_endLost (ringsOk_endLost (ringsOk_endLost k)))))
  · cases h; exact k

theorem ringsOk_exchangeDeadline (k : ringsOk s = true) (h : execExchangeDeadline x s = .next t) : ringsOk t = true := by
  have hp := ringsOk_takePassed (.exchange x) k
  unfold execExchangeDeadline at h
  unfold takePassed at hp
  split at h
  · rename_i d hd
    simp only [hd] at hp
    exact ringsOk_happened h hp
  · cases h; exact k

theorem ringsOk_leaseDeadlineRow (k : ringsOk s = true) (h : execLeaseDeadline x s = .next t) : ringsOk t = true := by
  have hp := ringsOk_takePassed (.lease x) k
  unfold execLeaseDeadline at h
  unfold takePassed at hp
  split at h
  · rename_i d hd
    simp only [hd] at hp
    exact ringsOk_happened h hp
  · cases h; exact k

theorem ringsOk_confirmDeadline (k : ringsOk s = true) (h : execConfirmDeadline x s = .next t) : ringsOk t = true := by
  have hp := ringsOk_takePassed (.confirm x) k
  unfold execConfirmDeadline at h
  unfold takePassed at hp
  split at h
  · rename_i d hd
    simp only [hd] at hp
    exact ringsOk_happened h hp
  · cases h; exact k

theorem ringsOk_frameStart (k : ringsOk s = true) (h : execFrameStart x s = .next t) : ringsOk t = true := by
  unfold execFrameStart at h
  split at h
  · exact ringsOk_happened h (ringsOk_takeFrameStart k)
  · cases h; exact k

theorem ringsOk_fallbackFrameStart (k : ringsOk s = true) (h : execFallbackFrameStart s = .next t) : ringsOk t = true := by
  unfold execFallbackFrameStart at h
  split at h
  · cases h; exact ringsOk_takeFallbackStart k
  · cases h; exact k

theorem ringsOk_calDue (k : ringsOk s = true) (h : execCalDue s = .next t) : ringsOk t = true := by
  unfold execCalDue at h
  split at h
  · exact ringsOk_happened_view h k rfl (fun _ _ h => h)
  · cases h; exact k

theorem ringsOk_wakeTarget (k : ringsOk s = true) (h : execWakeTarget s = .next t) : ringsOk t = true := by
  unfold execWakeTarget at h
  split at h
  · exact ringsOk_happened h (ringsOk_takePassed .wake k)
  · cases h; exact k

theorem ringsOk_activityNeedReached (k : ringsOk s = true) (h : execActivityNeedReached s = .next t) :
    ringsOk t = true := by
  unfold execActivityNeedReached at h
  split at h
  · exact ringsOk_happened h (ringsOk_of_base (base_choosePower s) (fun _ _ h => (aimed_choosePower s).2 h) k)
  · cases h; exact k

theorem ringsOk_slumberEntry (k : ringsOk s = true) (h : execSlumberEntry s = .next t) : ringsOk t = true := by
  unfold execSlumberEntry at h
  split at h
  · refine ringsOk_happened h (ringsOk_of_base (s := s) ?_ (fun _ _ h => ?_) k) <;> unfold beginEntry <;> dsimp only <;> split
    · simp
    · simp
    · simpa using h
    · simpa using h
  · cases h; exact k

theorem ringsOk_stopEdge (k : ringsOk s = true) (h : execStopEdge s = .next t) : ringsOk t = true := by
  unfold execStopEdge at h
  (repeat' split at h)
  · cases h
    exact ringsOk_of_view (s := s) rfl (fun _ _ h => h) k
  · refine ringsOk_happened h (ringsOk_of_base (s := s) ?_ (fun _ _ h => ?_) k) <;> unfold stayAwake <;> dsimp only <;> split
    · simp
    · simp
    · simpa using h
    · simpa using h
  · cases h; exact k

theorem ringsOk_enableCycle (k : ringsOk s = true) (h : execEnableCycle s = .next t) : ringsOk t = true := by
  unfold execEnableCycle at h
  (repeat' split at h) <;> cases h
  · exact ringsOk_of_base (s := s) rfl (fun _ _ h => h) k
  · exact k
  · exact k

theorem ringsOk_earlyWake (k : ringsOk s = true) (h : execEarlyWake s = .next t) : ringsOk t = true := by
  unfold execEarlyWake at h
  (repeat' split at h) <;> cases h
  · exact ringsOk_of_base (s := s) rfl (fun _ _ h => h) k
  · exact k
  · exact k

theorem ringsOk_slumberEnd (k : ringsOk s = true) (h : execSlumberEnd s = .next t) : ringsOk t = true := by
  unfold execSlumberEnd at h
  (repeat' split at h)
  · exact ringsOk_happened h (ringsOk_endSlumber _ k)
  all_goals cases h; exact k

theorem ringsOk_calStart (k : ringsOk s = true) (h : execCalStart s = .next t) : ringsOk t = true := by
  unfold execCalStart at h
  split at h <;> cases h
  · exact ringsOk_of_view (view_updCsc _ s) (fun _ _ h => h) k
  · exact k

theorem ringsOk_judgeCal {b : LT} {w : BitVec 13} (k : ringsOk s = true) : ringsOk (judgeCal b w s) = true := by
  unfold judgeCal; dsimp only; split
  · exact ringsOk_of_view (s := s) rfl (fun _ _ h => h) k
  · exact ringsOk_of_view (s := s) ((congrArg Base.view (base_notifyBare _ _ _)).trans (view_updCsc _ _))
      (fun _ _ h => (aimed_notifyBare _ _ _).2 h) k

theorem ringsOk_calEnd (k : ringsOk s = true) (h : execCalEnd s = .next t) : ringsOk t = true := by
  unfold execCalEnd at h
  (repeat' split at h)
  · exact ringsOk_happened h (ringsOk_judgeCal k)
  all_goals cases h; exact k

theorem ringsOk_batteryChange {a b : Battery} (k : ringsOk s = true) : ringsOk (batteryChange a b s) = true := by
  have ht : ringsOk (updCsc (markSeen b) s) = true := ringsOk_of_view (view_updCsc _ _) (fun _ _ h => h) k
  unfold batteryChange; dsimp only; split
  · refine ringsOk_settle _ (ringsOk_thriftTest (ringsOk_of_base (base_updPower _ _) (fun _ _ h => h) ?_))
    exact ringsOk_of_base (base_notifyBare _ _ _) (fun _ _ h => (aimed_notifyBare _ _ _).2 h) ht
  · exact ringsOk_wakeEvent _ (ringsOk_of_view (view_updCsc _ _) (fun _ _ h => h) ht)

theorem ringsOk_batterySample {l c : Bool} (k : ringsOk s = true) (h : execBatterySample l c s = .next t) :
    ringsOk t = true := by
  have hs : ringsOk (updCsc (sampleFilter (liveState l c)) s) = true :=
    ringsOk_of_view (view_updCsc _ s) (fun _ _ h => h) k
  unfold execBatterySample at h
  dsimp only at h
  (repeat' split at h) <;> cases h
  · exact k
  · exact hs
  · exact ringsOk_batteryChange hs

theorem ringsOk_transactionStart (k : ringsOk s = true) (h : execTransactionStart q s = .next t) : ringsOk t = true := by
  have hc : ringsOk (setCs q true s) = true := ringsOk_of_view (s := s) rfl (fun _ _ h => h) k
  unfold execTransactionStart at h
  (repeat' split at h) <;> cases h
  · exact k
  · exact hc
  · exact ringsOk_wakeEvent _ (ringsOk_setEngine hc rfl)

theorem ringsOk_transactionEnd (k : ringsOk s = true) (h : execTransactionEnd q s = .next t) : ringsOk t = true := by
  have hc : ringsOk (setCs q false s) = true := ringsOk_of_view (s := s) rfl (fun _ _ h => h) k
  unfold execTransactionEnd at h
  split at h <;> cases h
  · exact ringsOk_setEngine hc rfl
  · exact k

theorem ringsOk_wakeAsserted {l : Bool} (k : ringsOk s = true) (h : execWakeAsserted q l s = .next t) :
    ringsOk t = true := by
  have hp : ringsOk { s with pins := { s.pins with wake := s.pins.wake.set q l } } = true :=
    ringsOk_of_view (s := s) rfl (fun _ _ h => h) k
  unfold execWakeAsserted at h
  dsimp only at h
  split at h <;> cases h
  · exact ringsOk_wakeEvent _ hp
  · exact hp

theorem ringsOk_reset : ringsOk State.reset = true := by decide

/-- The input levels, the free counter and the waiting commands are no part of the law. -/
theorem ringsOk_inputs (p : Pins) (n : Nat) (l : List Instr) (k : ringsOk s = true) :
    ringsOk { s with pins := p, free := n, pending := l } = true := ringsOk_of_view (s := s) rfl (fun _ _ h => h) k

theorem ringsOk_resetNAsserted (h : execResetNAsserted s = .next t) : ringsOk t = true := by
  have hi := ringsOk_inputs s.pins s.free s.pending ringsOk_reset
  unfold execResetNAsserted at h
  rwa [Host.Outcome.next.inj h] at hi

theorem ringsOk_bringUp (k : ringsOk s = true) (h : execBringUp s = .next t) : ringsOk t = true := by
  unfold execBringUp at h
  split at h <;> cases h
  · exact ringsOk_of_view (s := s) rfl (fun _ _ h => h) k
  · exact k

theorem ringsOk_firstRefTick (k : ringsOk s = true) (h : execFirstRefTick s = .next t) : ringsOk t = true := by
  unfold execFirstRefTick at h
  split at h
  · have hr : ringsOk { s with phase := .running } = true := ringsOk_of_view (s := s) rfl (fun _ _ h => h) k
    exact ringsOk_happened h (ringsOk_heldChanges (ringsOk_of_base (base_demand _ _) (fun _ _ h => (aimed_demand _ _).2 h) hr))
  · cases h; exact k

/-! ### The rows and the step -/

/-- Every row keeps the law of the rings. -/
theorem ringsOk_exec (i : Instr) (k : ringsOk s = true) (h : exec i s = .next t) : ringsOk t = true := by
  cases i with
  | activate x => exact ringsOk_serve h k (fun _ => ringsOk_activateReply k)
  | deactivate x => exact ringsOk_serve h k (fun _ => ringsOk_shutDown k)
  | camp x b => exact ringsOk_serve h k (fun _ => ringsOk_campReply k)
  | reselect x b => exact ringsOk_serve h k (fun _ => ringsOk_reselectReply k)
  | loseService x => exact ringsOk_serve h k (fun _ => ringsOk_loseServiceReply k)
  | adjustTiming x d => exact ringsOk_serve h k (fun _ => ringsOk_adjustTimingReply k)
  | trim x w => exact ringsOk_serve h k (fun _ => ringsOk_trimReply k)
  | readTime q => exact ringsOk_serve h k (fun _ => (readTimeReply_after q s).symm ▸ k)
  | readContext q who => exact ringsOk_serve h k (fun _ => (readContextReply_after q who s).symm ▸ k)
  | stagePaging x c => exact ringsOk_serve h k (fun _ => ringsOk_stagePagingReply k)
  | pageResult x r => exact ringsOk_serve h k (fun _ => ringsOk_pageResultReply k)
  | reserve x b => exact ringsOk_serve h k (fun _ => ringsOk_reserveReply k)
  | cancel x a g => exact ringsOk_serve h k (fun _ => ringsOk_cancelReply k)
  | enterExchange x p n => exact ringsOk_serve h k (fun _ => ringsOk_enterExchangeReply k)
  | renewExchange x p n => exact ringsOk_serve h k (fun _ => ringsOk_renewExchangeReply k)
  | leaveExchange x => exact ringsOk_serve h k (fun _ => ringsOk_leaveExchangeReply k)
  | startCall x p l => exact ringsOk_serve h k (fun _ => ringsOk_startCallReply k)
  | modifyCall x p => exact ringsOk_serve h k (fun _ => ringsOk_modifyCallReply k)
  | renewHold x l => exact ringsOk_serve h k (fun _ => ringsOk_renewHoldReply k)
  | endCall x => exact ringsOk_serve h k (fun _ => ringsOk_endCallReply k)
  | setMeas x b => exact ringsOk_serve h k (fun _ => ringsOk_setMeasReply k)
  | setNeighbours x l =>
    refine ringsOk_serve h k fun hlen => ringsOk_setNeighboursReply k ?_
    rw [bodyLength] at hlen
    omega
  | addNeighbour x r => exact ringsOk_serve h k (fun _ => ringsOk_addNeighbourReply k)
  | removeNeighbour x a c => exact ringsOk_serve h k (fun _ => ringsOk_removeNeighbourReply k)
  | setClass x a c n => exact ringsOk_serve h k (fun _ => ringsOk_setClassReply k)
  | readBank x => exact ringsOk_serve h k (fun _ => (readBankReply_after x s).symm ▸ k)
  | releaseBank x => exact ringsOk_serve h k (fun _ => ringsOk_releaseBankReply k)
  | ackCandidate x a c => exact ringsOk_serve h k (fun _ => ringsOk_ackCandidateReply k)
  | handoverArm x b => exact ringsOk_serve h k (fun _ => ringsOk_armReply k)
  | handoverCancel x => exact ringsOk_serve h k (fun _ => ringsOk_handoverCancelReply k)
  | handoverConfirm x => exact ringsOk_serve h k (fun _ => ringsOk_handoverConfirmReply k)
  | handoverFail x => exact ringsOk_serve h k (fun _ => ringsOk_handoverFailReply k)
  | readPlan n => exact ringsOk_serve h k (fun _ => (readPlanReply_after n s).symm ▸ k)
  | readPower => exact ringsOk_serve h k (fun _ => k)
  | clearBattery => exact ringsOk_serve h k (fun _ => ringsOk_of_view (s := s) rfl (fun _ _ h => h) k)
  | startCal => exact ringsOk_serve h k (fun _ => ringsOk_of_view (s := s) rfl (fun _ _ h => h) k)
  | setPolicy b => exact ringsOk_serve h k (fun _ => ringsOk_setPolicyReply k)
  | setVote q => exact ringsOk_serve h k (fun _ => ringsOk_of_view (s := s) rfl (fun _ _ h => h) k)
  | clearVote q => exact ringsOk_serve h k (fun _ => ringsOk_of_view (s := s) rfl (fun _ _ h => h) k)
  | fetchNotices q => exact ringsOk_serve h k (fun _ => ringsOk_of_view (s := s) rfl (fun _ _ h => h) k)
  | portReset x =>
    exact ringsOk_serve h k (fun _ => ringsOk_of_view (s := shutDown x s) rfl (fun _ _ h => h) (ringsOk_shutDown k))
  | appPortReset => exact ringsOk_serve h k (fun _ => ringsOk_of_view (s := s) rfl (fun _ _ h => h) k)
  | transactionStart q => exact ringsOk_transactionStart k h
  | requestFrameComplete q tag len r => exact ringsOk_requestFrameComplete k h
  | transactionEnd q => exact ringsOk_transactionEnd k h
  | wakeAsserted q l => exact ringsOk_wakeAsserted k h
  | resetNAsserted => exact ringsOk_resetNAsserted h
  | bringUp => exact ringsOk_bringUp k h
  | firstRefTick => exact ringsOk_firstRefTick k h
  | frameStart x => exact ringsOk_frameStart k h
  | fallbackFrameStart => exact ringsOk_fallbackFrameStart k h
  | exchangeDeadline x => exact ringsOk_exchangeDeadline k h
  | leaseDeadline x => exact ringsOk_leaseDeadlineRow k h
  | confirmDeadline x => exact ringsOk_confirmDeadline k h
  | prepareEntry => exact ringsOk_prepareEntry k h
  | entryStart => exact ringsOk_entryStart k h
  | entryEnd => exact ringsOk_entryEnd k h
  | gapWindowTune => exact ringsOk_gapWindowTune k h
  | gapWindowOn => exact ringsOk_gapWindowOn k h
  | gapWindowEnd => exact ringsOk_gapWindowEnd k h
  | lostOccurrenceEnd x p => exact ringsOk_lostOccurrenceEnd k h
  | probeTime => exact ringsOk_probeTime k h
  | calDue => exact ringsOk_calDue k h
  | wakeTarget => exact ringsOk_wakeTarget k h
  | activityNeedReached => exact ringsOk_activityNeedReached k h
  | rclAck a => exact ringsOk_rclAck k h
  | readReportAck l m => exact ringsOk_readReportAck k h
  | trimAck => exact ringsOk_trimAck k h
  | probeAck => exact ringsOk_probeAck k h
  | linkFault => exact ringsOk_linkFault k h
  | slumberEntry => exact ringsOk_slumberEntry k h
  | stopEdge => exact ringsOk_stopEdge k h
  | enableCycle => exact ringsOk_enableCycle k h
  | earlyWake => exact ringsOk_earlyWake k h
  | slumberEnd => exact ringsOk_slumberEnd k h
  | calStart => exact ringsOk_calStart k h
  | calEnd => exact ringsOk_calEnd k h
  | batterySample l c => exact ringsOk_batterySample k h

theorem ringsOk_idleTick (k : ringsOk s = true) : ringsOk (idleTick s) = true := by
  unfold idleTick; (repeat' split)
  · exact ringsOk_of_base (s := s) rfl (fun _ _ h => h) k
  · exact ringsOk_of_view (s := s) rfl (fun _ _ h => h) k
  · exact k

theorem idleEvent_ringsOk {i : Instr} (h : idleEvent s = some (i, t)) (k : ringsOk s = true) : ringsOk t = true := by
  unfold idleEvent at h
  split at h
  · obtain ⟨_, _, he⟩ := Option.map_eq_some_iff.1 h
    cases he; exact k
  · exact (chooseOne_ringsOk h k).2

end

/-- Settles O11: every row keeps the law, by the laws of the two faces and aims (`ringsOk_iff`). -/
theorem ringsStayLawful : Obligations.RingsStayLawful := by
  intro s t k h
  unfold step at h
  split at h
  · exact ringsOk_exec _ (ringsOk_inputs s.pins s.free _ k) h
  · split at h
    · rename_i he
      exact ringsOk_exec _ (idleEvent_ringsOk he k) h
    · cases h; exact ringsOk_idleTick k

/-- Settles O12: the reset state is closed, and each law evaluates. -/
theorem lawsHoldAtReset : Obligations.LawsHoldAtReset :=
  ⟨by decide, by decide, by decide, by decide, by decide, ringsOk_reset⟩

end Sys2Proof.Machine
end

section
/-! SUPPORT. The whole next state of a request, by what its reply is; and the reads of contexts and plan (O15). -/

namespace Sys2Proof.Machine

section
variable {q : Port} {r : Request} {f : State → Reply} {s t : State} {tag : BitVec 8} {st : Status} {b : Body}

theorem serve_refuse (h : pendingTag q r s = some tag) (hf : f s = .refuse st) : serve q r f s = refusedWith q tag st s := by
  rw [serve_some h, hf]; rfl

theorem serve_quiet (h : pendingTag q r s = some tag) (hf : f s = .quiet st b t) :
    serve q r f s = answeredOnly q tag st b t := by
  rw [serve_some h, hf]; rfl

theorem serve_accept (h : pendingTag q r s = some tag) (hf : f s = .accept st b t) :
    serve q r f s = tookEffect q tag st b t := by
  rw [serve_some h, hf]; rfl

end

theorem port_subscription (x : Subscription) : x.port.subscription = some x := by cases x <;> rfl

/-! ### READ_CONTEXT and READ_PLAN -/

/-- R20: from a stack port any choice but the other subscription reads the port's own. -/
theorem readContextReply_stack (x : Subscription) (who : Coded Subscription) (s : State) :
    readContextReply x.port who s =
      if who = .val x.other then .refuse .notOwner else .quiet .ok (contextBody x s) s := by
  unfold readContextReply
  rw [port_subscription]
  cases who with
  | val y =>
    rcases sub_cases x y with rfl | rfl
    · simp [(other_ne y).symm]
    · simp [other_ne x]
  | absent => simp
  | unknown => simp

theorem planView_eq (e : Entry) : planView e =
    { handle := e.handle, owner := e.owner, origin := e.origin, kind := e.kind, priority := e.priority,
      state := e.state, start := e.start, stop := e.stop, channel := e.channel,
      dir := if e.kind = .callTx ∨ e.kind = .exchTx then .tx else .rx } := by
  unfold planView Entry.dir
  cases e.kind <;> rfl

/-- Settles O15. -/
theorem readContextAndPlan : Obligations.ReadContextAndPlan := by
  refine ⟨⟨fun x who tag s h => ?_, fun y tag s h => ?_, fun who tag s h hw => ?_⟩, fun start tag s h => ?_⟩
  · have hr := readContextReply_stack x who s
    split
    · rename_i hw
      rw [if_pos hw] at hr
      exact serve_refuse h hr
    · rename_i hw
      rw [if_neg hw] at hr
      exact serve_quiet h hr
  · exact serve_quiet h rfl
  · refine serve_refuse h ?_
    cases who with
    | val y => exact absurd rfl (hw y)
    | absent => rfl
    | unknown => rfl
  · dsimp only
    split
    · rename_i hs
      exact serve_refuse h (if_pos hs)
    · rename_i hs
      have hr : readPlanReply start s = .quiet .ok (planBody start s) s := if_neg hs
      rw [planBody, funext planView_eq] at hr
      exact serve_quiet h hr

end Sys2Proof.Machine
end

section
/-! SUPPORT. How an exchange ends (O17) and how a call ends (O34). -/

namespace Sys2Proof.Machine

/-! ### Exchanges -/

theorem exchangeDue_some {x : Subscription} {s : State} {d : LT} (hr : ltRuns s = true)
    (hs : (s.cxm.get x).state = .exchange) (hd : (s.cxm.get x).exchangeDeadline = some d) (hl : ltReached s.tbu.lt d = true) :
    exchangeDue x s = some d := by
  unfold exchangeDue
  rw [if_pos ⟨hr, hs⟩, hd]
  exact Option.filter_eq_some_iff.2 ⟨rfl, hl⟩

/-- Settles O17. -/
theorem exchangeEnds : Obligations.ExchangeEnds := by
  intro x s
  refine ⟨fun tag h => ?_, fun d hr hs hd hl => ?_⟩
  · split
    · rename_i hs
      exact serve_accept h (if_pos hs)
    · rename_i hs
      exact serve_refuse h (if_neg hs)
  · have hdue := exchangeDue_some hr hs hd hl
    show execExchangeDeadline x s = _
    unfold execExchangeDeadline
    rw [hdue]
    rfl

/-! ### Calls -/

/-- R28, R31: the whole state a call's end leaves, where the notices keep the contexts. -/
theorem endCall_eq {x : Subscription} {s u : State} {tell : State → State} (hu : tell (removeCall x (releaseClaim s)) = u)
    (hc : u.cxm = s.cxm) : endCall x tell s =
      (let v : State := { u with cxm := u.cxm.set x (afterCall (s.cxm.get x)) }
       if pageCalled x v = true then activate x .page v else v) := by
  have hv : updCtx x afterCall u = { u with cxm := u.cxm.set x (afterCall (s.cxm.get x)) } := by
    rw [← hc]; rfl
  unfold endCall
  rw [hu, hv]

theorem removeCall_cxm (x : Subscription) (s : State) : (removeCall x (releaseClaim s)).cxm = s.cxm := by
  have h := cxm_of_base (base_deactivate x .call (releaseClaim s))
  exact h

theorem inCall_iff (c : Context) : inCall c = true ↔ c.state = .call ∨ (c.state = .handover ∧ c.prior = some .call) := by
  rw [inCall_eq, decide_eq_true_eq]

theorem leaseDue_some {x : Subscription} {s : State} {d : LT} (hr : ltRuns s = true) (hs : inCall (s.cxm.get x) = true)
    (hd : (s.cxm.get x).leaseDeadline = some d) (hl : ltReached s.tbu.lt d = true) : leaseDue x s = some d := by
  unfold leaseDue
  rw [if_pos ⟨hr, hs⟩, hd]
  exact Option.filter_eq_some_iff.2 ⟨rfl, hl⟩

/-- Settles O34. -/
theorem callEnds : Obligations.CallEnds := by
  intro x s
  refine ⟨fun tag h => ⟨fun hc => ?_, fun hc => ?_⟩, fun d hr hc hd hl => ?_⟩
  · have hr : endCallReply x s = .accept .ok .empty (endCall x (notifyAppAt x (now s) (.callEnded .endCall)) s) :=
      if_pos ((inCall_iff _).2 hc)
    rw [endCall_eq (tell := notifyAppAt x (now s) (.callEnded .endCall)) rfl (removeCall_cxm x s)] at hr
    exact serve_accept h hr
  · exact serve_refuse h (if_neg fun hn => hc ((inCall_iff _).1 hn))
  · have hdue := leaseDue_some hr ((inCall_iff _).2 hc) hd hl
    show execLeaseDeadline x s = _
    unfold execLeaseDeadline
    rw [hdue]
    dsimp only
    rw [endCall_eq (tell := tellLeaseLost x d) rfl (removeCall_cxm x s)]
    rfl

end Sys2Proof.Machine
end

section
/-! SUPPORT. RESELECT and HANDOVER_CANCEL (O39). -/

namespace Sys2Proof.Machine

/-! ### Ranges and distances -/

/-- The distance in frames from a record to a frame number that is in range (R7). -/
theorem frameDist_toFN {n : Nat} (b : Timebase) (h : n ≤ 4095) :
    frameDist b (toFN n) = (n + 4096 - b.fnRef.toNat) % 4096 := by
  have hb := b.fnRef.isLt
  rw [frameDist, toFN, BitVec.toNat_sub, BitVec.toNat_ofNat]
  omega

theorem switchDistOk_iff (d : Nat) : switchDistOk d = true ↔ ¬ (d < 2 ∨ 64 < d) := by
  rw [switchDistOk, Bool.and_eq_true, decide_eq_true_eq, decide_eq_true_eq]
  omega

theorem reselectOk_iff (b : ReselectBody) : reselectOk b = true ↔
    b.tag ≤ 1023 ∧ b.channel ≤ 4095 ∧ b.fnS ≤ 4095 ∧ b.fnNew ≤ 4095 := by
  simp [reselectOk, tagOk, channelOk, fnOk, and_assoc]

section
variable {x : Subscription} {s : State} {b : ReselectBody}

/-! ### RESELECT -/

/-- The record of a RESELECT that is taken (R160). -/
def reselectRecord (b : ReselectBody) (offset : Int) : ReselectRecord :=
  { tag := b.tag, channel := b.channel, offset := offset, fnS := toFN b.fnS, fnNew := toFN b.fnNew }

theorem reselectReply_state (h : ¬ ((s.cxm.get x).state = .camped ∧ (s.hou.get x).reselect = none)) :
    reselectReply x b s = .refuse .state := by
  have h' : (s.cxm.get x).state ≠ .camped ∨ (s.hou.get x).reselect.isSome := by
    by_cases hc : (s.cxm.get x).state = .camped
    · exact .inr (Option.isSome_iff_ne_none.2 fun hn => h ⟨hc, hn⟩)
    · exact .inl hc
  exact if_pos h'

theorem reselectReply_range (hc : (s.cxm.get x).state = .camped) (hn : (s.hou.get x).reselect = none)
    (hk : ¬ reselectOk b = true) : reselectReply x b s = .refuse .badValue := by
  simp [reselectReply, hc, hn, hk]

section
variable {tb : Timebase} (hc : (s.cxm.get x).state = .camped) (hn : (s.hou.get x).reselect = none)
  (hk : reselectOk b = true) (htb : s.tbu.record.get x = some tb)
include hc hn hk htb

theorem reselectReply_distance (hd : ¬ switchDistOk (frameDist tb (toFN b.fnS)) = true) :
    reselectReply x b s = .refuse .badValue := by
  simp [reselectReply, hc, hn, hk, htb, hd]

theorem reselectReply_noTiming (hd : switchDistOk (frameDist tb (toFN b.fnS)) = true)
    (ho : targetOffset x b.tag b.channel s = none) : reselectReply x b s = .refuse .noTiming := by
  simp [reselectReply, hc, hn, hk, htb, hd, ho]

theorem reselectReply_taken {o : Int} (hd : switchDistOk (frameDist tb (toFN b.fnS)) = true)
    (ho : targetOffset x b.tag b.channel s = some o) : reselectReply x b s =
      .accept .ok .empty (updHou x (fun h => { h with reselect := some (reselectRecord b o) }) s) := by
  simp [reselectReply, hc, hn, hk, htb, hd, ho, reselectRecord]

end

/-! ### HANDOVER_CANCEL -/

theorem handoverIn_iff {p : HoPhase} {r : HandoverRecord} : handoverIn x p s = some r ↔
    (s.cxm.get x).state = .handover ∧ (s.hou.get x).record = some r ∧ r.phase = p := by
  unfold handoverIn
  rw [Option.ite_none_right_eq_some, Option.filter_eq_some_iff, beq_iff_eq]

theorem handoverIn_none {p : HoPhase} (h : ¬ ((s.cxm.get x).state = .handover ∧ (s.hou.get x).record.map (·.phase) = some p)) :
    handoverIn x p s = none := by
  rw [Option.eq_none_iff_forall_ne_some]
  intro r hr
  obtain ⟨hs, hr, hp⟩ := handoverIn_iff.1 hr
  exact h ⟨hs, by rw [hr, Option.map_some, hp]⟩

/-- The context to which a handover returns, over a state that has kept the context, the timer and LT (R32, R107). -/
theorem returnContext_kept {u : State} (hc : u.cxm.get x = s.cxm.get x)
    (ht : (u.ceu.items.get x).timer = (s.ceu.items.get x).timer) (hl : u.tbu.lt = s.tbu.lt) :
    returnContext x u = { u with cxm := u.cxm.set x (backContext
      ((s.ceu.items.get x).timer.map (fun n => s.tbu.lt + BitVec.ofNat 48 (n * 260000))) (s.cxm.get x)) } := by
  rw [returnContext_eq, ← hc, ← ht, ← hl]
  rfl

theorem cancelHandover_eq (x : Subscription) (r : HandoverRecord) (s : State) : cancelHandover x r s =
    { dropSync x r s with
      hou := (dropSync x r s).hou.set x { s.hou.get x with record := none },
      cxm := (dropSync x r s).cxm.set x (backContext
        ((s.ceu.items.get x).timer.map (fun n => s.tbu.lt + BitVec.ofNat 48 (n * 260000))) (s.cxm.get x)) } := by
  obtain ⟨hcxm, htbu, hceu, hhou, _⟩ := kept_of_base (base_dropSync x r s)
  unfold cancelHandover
  rw [returnContext_kept (s := s) (by simp [setHandover, hcxm]) (by simp [setHandover, hceu]) (by simp [setHandover, htbu]),
    ← hhou]
  rfl

end

/-- Settles O39. -/
theorem reselectAndHandoverCancel : Obligations.ReselectAndHandoverCancel := by
  refine ⟨fun x b tag s h => ⟨fun hi => serve_refuse h (reselectReply_state hi), ?_, ?_⟩,
    fun x tag s h => ⟨fun ha => ?_, fun r ha hr => ?_⟩⟩
  · rintro ⟨hc, hn⟩ hr
    exact serve_refuse h (reselectReply_range hc hn fun hk => hr ((reselectOk_iff b).1 hk))
  · rintro tb ⟨hc, hn⟩ hr htb
    have hk := (reselectOk_iff b).2 hr
    obtain ⟨_, _, hfn, _⟩ := hr
    have hdist := switchDistOk_iff (frameDist tb (toFN b.fnS))
    rw [← frameDist_toFN tb hfn]
    dsimp only
    split
    · rename_i hd
      exact serve_refuse h (reselectReply_distance hc hn hk htb fun h => hdist.1 h hd)
    · rename_i hd
      split
      · rename_i ho
        exact serve_refuse h (reselectReply_noTiming hc hn hk htb (hdist.2 hd) ho)
      · rename_i o ho
        exact serve_accept h (reselectReply_taken hc hn hk htb (hdist.2 hd) ho)
  · refine serve_refuse h ?_
    unfold handoverCancelReply
    rw [handoverIn_none ha]
  · refine serve_accept h ?_
    unfold handoverCancelReply
    rw [handoverIn_iff.2 ⟨ha.1, hr, by simpa [hr] using ha.2⟩]
    dsimp only
    rw [cancelHandover_eq]
    rfl

end Sys2Proof.Machine
end

section
/-! SUPPORT. HANDOVER_ARM (O40): its tests, the SYNC it offers, and its admission on free time. -/

namespace Sys2Proof.Machine

/-! ### Admission on free time -/

/-- A newcomer that meets nothing has no obstacles (R45, R49). -/
theorem affected_free {e : Entry} {s : State} (h : ∀ f ∈ s.plan, conflicts s.air.gRetune s.air.gTurn e f = false) :
    affected [e] s = [] := by
  have ho : obstacles [e] s = [] := by
    refine List.filter_eq_nil_iff.2 fun f hf => ?_
    simp [meets, h f hf]
  rw [affected, ho]
  exact List.filter_eq_nil_iff.2 fun f _ => by simp [isAffected]

/-- R45: a newcomer of one member that is early enough and meets nothing takes the next slot. -/
theorem admit_free {e : Entry} {s : State} {h : Handle} (ht : ltAfter e.start (ltAdd (now s) Config.prepareLead) = true)
    (hl : s.plan.length < 48) (hh : nextHandle s = some h)
    (hf : ∀ f ∈ s.plan, conflicts s.air.gRetune s.air.gTurn e f = false) :
    admitEntries false [e] s = .admitted [h] (addEntry { e with handle := h } s) := by
  have ha := affected_free hf
  have hstart : newcomerStart [e] = some e.start := rfl
  have hcap : s.plan.length < Config.planCapacity := hl
  have hyc : yieldsCalls [e] s = false := by
    unfold yieldsCalls
    cases s.ceu.claim <;> simp [ha]
  have hys : yieldsSelf [e] s = false := by
    unfold yieldsSelf
    cases s.ceu.claim <;> simp [ha]
  have hb : beatsAll [e] s = true := by simp [beatsAll, ha]
  unfold admitEntries
  rw [hstart]
  dsimp only
  rw [ht, hyc, hys, hb, ha]
  simp [hcap, forEntries, place, placeOne, hh]

/-! ### HANDOVER_ARM -/

theorem armOk_iff (b : ArmBody) : armOk b = true ↔
    b.tag ≤ 1023 ∧ b.channel ≤ 4095 ∧ b.fnS ≤ 4095 ∧ b.fnNew ≤ 4095 ∧ (b.sync = 1 ∨ b.sync = 2) ∧ 2 ≤ b.limit ∧
      b.limit ≤ 50 := by
  simp [armOk, tagOk, channelOk, fnOk, and_assoc]

section
variable {x : Subscription} {s : State} {b : ArmBody}

theorem armReply_state
    (h : ¬ (((s.cxm.get x).state = .exchange ∨ (s.cxm.get x).state = .call) ∧ (s.cxm.get x.other).state ≠ .handover)) :
    armReply x b s = .refuse .state := by
  unfold armReply; dsimp only
  split
  · rfl
  · rename_i hc
    refine if_pos ?_
    by_contra hn
    exact h ⟨by simpa [or_iff_not_imp_left] using hc, hn⟩

section
variable {tb : Timebase} (hc : (s.cxm.get x).state = .exchange ∨ (s.cxm.get x).state = .call)
  (hn : (s.cxm.get x.other).state ≠ .handover)
include hc hn

theorem armReply_range (hk : ¬ armOk b = true) : armReply x b s = .refuse .badValue := by
  rcases hc with hc | hc <;> simp [armReply, hc, hn, hk]

variable (hk : armOk b = true) (htb : s.tbu.record.get x = some tb)
include hk htb

theorem armReply_distance (hd : ¬ switchDistOk (frameDist tb (toFN b.fnS)) = true) :
    armReply x b s = .refuse .badValue := by
  rcases hc with hc | hc <;> simp [armReply, hc, hn, hk, htb, hd]

theorem armReply_noTiming (hd : switchDistOk (frameDist tb (toFN b.fnS)) = true)
    (ho : targetOffset x b.tag b.channel s = none) : armReply x b s = .refuse .noTiming := by
  rcases hc with hc | hc <;> simp [armReply, hc, hn, hk, htb, hd, ho]

theorem armReply_offered {o : Int} (hd : switchDistOk (frameDist tb (toFN b.fnS)) = true)
    (ho : targetOffset x b.tag b.channel s = some o) : armReply x b s = offerSync x b tb o s := by
  rcases hc with hc | hc <;> simp [armReply, hc, hn, hk, htb, hd, ho]

end

end

theorem serve_syncAnswer {x : Subscription} {b : ArmBody} {o : Int} {e : Entry} {s t : State} {tag : BitVec 8} {h : Handle}
    {hs : List Handle} (hp : pendingTag x.port (.handoverArm b) s = some tag)
    (hr : armReply x b s = syncAnswer x b o e (.admitted (h :: hs) t)) : execHandoverArm x b s =
      tookEffect x.port tag .ok (.armed h e.start e.stop)
        (updCtx x armContext (setHandover x (some (armedRecord b o h)) t)) := serve_accept hp hr

theorem syncAnswer_refused {x : Subscription} {b : ArmBody} {o : Int} {e : Entry} {v : Verdict}
    (h : ∀ g gs t, v = .admitted (g :: gs) t → False) : syncAnswer x b o e v = .refuse .conflict := by
  unfold syncAnswer
  split
  · exact (h _ _ _ rfl).elim
  · rfl

/-- Settles O40. -/
theorem handoverArm : Obligations.HandoverArm := by
  refine ⟨fun x b tag s h => ⟨fun hi => serve_refuse h (armReply_state hi), ?_, ?_⟩, ?_⟩
  · rintro ⟨hc, hn⟩ hr
    exact serve_refuse h (armReply_range hc hn fun hk => hr ((armOk_iff b).1 hk))
  · rintro tb ⟨hc, hn⟩ hr htb
    have hk := (armOk_iff b).2 hr
    obtain ⟨_, _, hfn, _⟩ := hr
    have hdist := switchDistOk_iff (frameDist tb (toFN b.fnS))
    rw [← frameDist_toFN tb hfn]
    refine ⟨fun hd => serve_refuse h (armReply_distance hc hn hk htb fun h => hdist.1 h hd), fun h2 h64 ho => ?_,
      fun o h2 h64 ho => ?_⟩
    · exact serve_refuse h (armReply_noTiming hc hn hk htb (hdist.2 (by omega)) ho)
    · have hr := (armReply_offered hc hn hk htb (hdist.2 (by omega)) ho).trans (offerSync_eq x b tb o s)
      intro start e armed context
      have he : syncEntry x b (syncStart tb (frameDist tb (toFN b.fnS)) o) s = e := rfl
      rw [he] at hr
      clear_value e
      generalize hv : admitEntries false [e] s = v at hr ⊢
      split
      · rename_i hd _ t
        have hcxm : t.cxm = s.cxm := by
          have hb := base_admit false [e] s
          rw [hv] at hb
          exact cxm_of_base hb
        have hctx : context = armContext (t.cxm.get x) := by rw [hcxm]; rfl
        rw [hctx]
        exact serve_syncAnswer h hr
      · rename_i hno
        rw [syncAnswer_refused hno] at hr
        exact serve_refuse h hr
  · intro x b tag tb o h s hp hc hn h1 h2 h3 h4 h5 h6 h7 htb hd2 hd64 ho e ht hl hh hf
    have hdist := switchDistOk_iff (frameDist tb (toFN b.fnS))
    have hr := (armReply_offered hc hn ((armOk_iff b).2 ⟨h1, h2, h3, h4, h5, h6, h7⟩) htb
      (hdist.2 (by rw [frameDist_toFN tb h3]; omega)) ho).trans (offerSync_eq x b tb o s)
    have he : syncEntry x b (syncStart tb (frameDist tb (toFN b.fnS)) o) s = e := by rw [frameDist_toFN tb h3]
    rw [he] at hr
    clear_value e
    rw [admit_free ht hl hh hf] at hr
    have hother : x.other ≠ x := other_ne x
    exact ⟨_, serve_syncAnswer hp hr, rfl, by simp [armContext], by simp [setHandover, addEntry, armedRecord],
      by simp [setHandover, addEntry], by simp [setHandover, addEntry], rfl, rfl, rfl, rfl⟩

end Sys2Proof.Machine
end

section
/-! SUPPORT. What leaves the plan and what becomes of the waiting commands, one rule per operation; and the teardown of a
subscription (O14). -/

namespace Sys2Proof.Machine

/-! ### Leaving the plan -/

@[simp] theorem plan_removeEntry (h : Handle) (s : State) : (removeEntry h s).plan = s.plan.filter (fun e => e.handle != h) := by
  unfold removeEntry; split
  · rfl
  · rename_i hn
    refine (List.filter_eq_self.2 fun e he => ?_).symm
    simp only [inPlan, List.any_eq_true, not_exists, not_and] at hn
    simpa using hn e he
@[simp] theorem plan_tearEntry (e : Entry) (s : State) : (tearEntry e s).plan = s.plan.filter (fun f => f.handle != e.handle) := by
  simp [tearEntry]

/-- An operation that removes one entry each, over a list of entries. -/
theorem plan_forEntries {f : Entry → State → State}
    (hf : ∀ e s, (f e s).plan = s.plan.filter (fun g => g.handle != e.handle)) (es : List Entry) (s : State) :
    (forEntries f es s).plan = s.plan.filter (fun g => !es.any (fun e => e.handle == g.handle)) := by
  induction es generalizing s with
  | nil => simp [forEntries]
  | cons e es ih =>
    rw [forEntries, ih, hf, List.filter_filter]
    refine List.filter_congr fun g _ => ?_
    rw [List.any_cons, Bool.not_or, Bool.and_comm, bne, BEq.comm]

/-! ### What the sequencer keeps -/

/-- The sequencer but for the waiting commands and the gap's windows. -/
def Rsq.rest (r : Rsq) : Rsq := { r with waiting := [], gap := none }

theorem rest_demand (c : Cmd) (s : State) : (demand c s).rsq.rest = s.rsq.rest := by
  unfold demand; split <;> rfl
theorem rest_cutOff (e : Entry) (s : State) : (cutOff e s).rsq.rest = s.rsq.rest := by
  unfold cutOff; split
  · exact rest_demand _ _
  · rfl
theorem rest_removeEntry (h : Handle) (s : State) : (removeEntry h s).rsq.rest = s.rsq.rest := by
  unfold removeEntry; split <;> rfl
theorem rest_tearEntry (e : Entry) (s : State) : (tearEntry e s).rsq.rest = s.rsq.rest :=
  (rest_removeEntry _ _).trans (rest_cutOff _ _)
theorem rest_forEntries {f : Entry → State → State} (hf : ∀ e s, (f e s).rsq.rest = s.rsq.rest) (es : List Entry) (s : State) :
    (forEntries f es s).rsq.rest = s.rsq.rest := by
  induction es generalizing s with
  | nil => rfl
  | cons e es ih => rw [forEntries, ih, hf]

theorem link_of_rest {r r' : Rsq} (h : r.rest = r'.rest) : r.link = r'.link := by
  have hl : r.rest.link = r'.rest.link := congrArg Rsq.link h
  exact hl

/-! ### The waiting commands -/

theorem isReadOf_iff (h : Handle) (k : Cmd) : isReadOf h k = true ↔ ∃ i, k = .readReport (.gap h i) := by
  unfold isReadOf
  split
  · rename_i g i
    rw [beq_iff_eq]
    exact ⟨fun hg => ⟨i, by rw [hg]⟩, fun ⟨_, hk⟩ => by cases hk; rfl⟩
  · rename_i hno
    simp only [Bool.false_eq_true, false_iff, not_exists]
    rintro i rfl
    exact hno h i rfl

/-- A waiting command that an entry's teardown leaves: no setup command of it, and, where it is EXECUTING, no READ_REPORT of
a window of it. -/
def staysWaiting (e : Entry) (k : Cmd) : Bool := !isSetupFor e.handle k && !(e.state == .executing && isReadOf e.handle k)

theorem staysWaiting_off (e : Entry) : staysWaiting e (.off .none) = true := by
  simp [staysWaiting, isSetupFor, isReadOf]

/-- The OFF an EXECUTING entry leaves behind (R35). -/
def lastOff (e : Entry) : List Cmd := if e.state = .executing then [.off .none] else []

theorem waiting_cutOff {e : Entry} {s : State} (hl : s.rsq.link = .up) : (cutOff e s).rsq.waiting =
    s.rsq.waiting.filter (fun k => !(e.state == .executing && isReadOf e.handle k)) ++ lastOff e := by
  rw [cutOff_waiting e s hl, lastOff]
  split
  · rename_i h
    rw [h]
    rfl
  · rename_i h
    have hb : (e.state == .executing) = false := by simpa using h
    simp [hb]

theorem waiting_removeEntry {h : Handle} {s : State} (hi : inPlan h s = true) :
    (removeEntry h s).rsq.waiting = s.rsq.waiting.filter (fun k => !isSetupFor h k) := by
  unfold removeEntry; rw [if_pos hi]; rfl

theorem waiting_tearEntry {e : Entry} {s : State} (hl : s.rsq.link = .up) (he : e ∈ s.plan) :
    (tearEntry e s).rsq.waiting = s.rsq.waiting.filter (staysWaiting e) ++ lastOff e := by
  have hi : inPlan e.handle (cutOff e s) = true := by
    rw [inPlan, cutOff_plan]
    exact List.any_eq_true.2 ⟨e, he, by simp⟩
  have hoff : (lastOff e).filter (fun k => !isSetupFor e.handle k) = lastOff e := by
    unfold lastOff; split <;> simp [isSetupFor]
  rw [tearEntry, waiting_removeEntry hi, waiting_cutOff hl, List.filter_append, hoff, List.filter_filter]
  rfl

/-- The waiting commands after a list of entries of the plan, of distinct handles, has been torn down. -/
theorem waiting_tearEntries (es : List Entry) {s : State} (hl : s.rsq.link = .up) (hin : ∀ e ∈ es, e ∈ s.plan)
    (hd : es.Pairwise (fun e f => f.handle ≠ e.handle)) : (forEntries tearEntry es s).rsq.waiting =
      s.rsq.waiting.filter (fun k => es.all (fun e => staysWaiting e k)) ++ es.flatMap lastOff := by
  induction es generalizing s with
  | nil => simp [forEntries]
  | cons e es ih =>
    obtain ⟨hne, hd⟩ := List.pairwise_cons.1 hd
    have hin' : ∀ f ∈ es, f ∈ (tearEntry e s).plan := fun f hf => by
      rw [plan_tearEntry]
      exact List.mem_filter.2 ⟨hin f (List.mem_cons_of_mem _ hf), by simpa using hne f hf⟩
    have hoff : (lastOff e).filter (fun k => es.all (fun e => staysWaiting e k)) = lastOff e := by
      unfold lastOff; split <;> simp [staysWaiting_off]
    rw [forEntries, ih ((link_of_rest (rest_tearEntry e s)).trans hl) hin' hd,
      waiting_tearEntry hl (hin e List.mem_cons_self), List.filter_append, hoff, List.filter_filter, List.append_assoc]
    congr 1
    refine List.filter_congr fun k _ => ?_
    rw [List.all_cons, Bool.and_comm]

/-- Distinct slots are distinct handles (R39). -/
theorem pairwise_of_slotsDistinct {es : List Entry} (h : slotsDistinct es = true) :
    es.Pairwise (fun e f => f.handle ≠ e.handle) := by
  induction es with
  | nil => exact .nil
  | cons e es ih =>
    simp only [slotsDistinct, Bool.and_eq_true, List.all_eq_true, bne_iff_ne] at h
    refine List.pairwise_cons.2 ⟨fun f hf he => h.1 f hf (by rw [he]), ih h.2⟩

theorem flatMap_lastOff (es : List Entry) :
    es.flatMap lastOff = (es.filter (fun e => e.state == .executing)).map (fun _ => Cmd.off .none) := by
  induction es with
  | nil => rfl
  | cons e es ih =>
    rw [List.flatMap_cons, ih, List.filter_cons]
    unfold lastOff
    by_cases h : e.state = .executing <;> simp [h]

/-! ### Teardown -/

section
variable {x : Subscription} {s : State} {c : CtxState}

theorem rest_tearPlan (x : Subscription) (s : State) : (tearPlan x s).rsq.rest = s.rsq.rest :=
  rest_forEntries rest_tearEntry _ _

/-- Every entry of x leaves, and with it whatever else holds its handle. -/
theorem plan_tearPlan (x : Subscription) (s : State) : (tearPlan x s).plan =
    s.plan.filter (fun e => !s.plan.any (fun f => f.owner == x && f.handle == e.handle)) := by
  rw [tearPlan, plan_forEntries plan_tearEntry]
  refine List.filter_congr fun e _ => ?_
  rw [List.any_filter]

/-- R35, R69, R77: no setup command of x's entries waits any longer, nor a READ_REPORT of its EXECUTING gap, and each entry
that is EXECUTING leaves an OFF. -/
theorem waiting_tearPlan (hl : s.rsq.link = .up) (hd : slotsDistinct s.plan = true) : (tearPlan x s).rsq.waiting =
    s.rsq.waiting.filter (fun k => decide (∀ e ∈ s.plan, e.owner = x →
        isSetupFor e.handle k = false ∧ ¬ (e.state = .executing ∧ isReadOf e.handle k = true))) ++
      (s.plan.filter (fun e => e.owner == x && e.state == .executing)).map (fun _ => .off .none) := by
  have hmem : ∀ e ∈ s.plan.filter (fun e => e.owner == x), e ∈ s.plan := fun e he => (List.mem_filter.1 he).1
  have hp : (s.plan.filter (fun e => e.owner == x)).Pairwise (fun e f => f.handle ≠ e.handle) :=
    (pairwise_of_slotsDistinct hd).sublist List.filter_sublist
  rw [tearPlan, waiting_tearEntries _ hl hmem hp, flatMap_lastOff, List.filter_filter]
  congr 1
  · refine List.filter_congr fun k _ => ?_
    rw [Bool.eq_iff_iff, decide_eq_true_eq, List.all_eq_true]
    refine ⟨fun h e he ho => ?_, fun h e he => ?_⟩
    · have hk := h e (List.mem_filter.2 ⟨he, by simpa using ho⟩)
      simpa [staysWaiting, imp_iff_not_or] using hk
    · obtain ⟨he, ho⟩ := List.mem_filter.1 he
      have hk := h e he (by simpa using ho)
      simpa [staysWaiting, imp_iff_not_or] using hk
  · congr 1
    exact List.filter_congr fun e _ => Bool.and_comm _ _

end

/-- Settles O14. -/
theorem teardownOfASubscription : Obligations.TeardownOfASubscription := by
  refine ⟨fun x tag s => ⟨fun h => serve_accept h rfl, fun h => ?_, fun h => serve_accept h rfl⟩, fun x c s => ?_⟩
  · split
    · rename_i hs
      exact serve_refuse h (if_pos hs)
    · rename_i hs
      exact serve_accept h (if_neg hs)
  · have hrest := rest_tearPlan x s
    have hrsq {α : Type} (g : Rsq → α) (hg : ∀ r, g r = g r.rest) : g (tearPlan x s).rsq = g s.rsq := by
      rw [hg, hrest, ← hg]
    dsimp only
    rw [teardown_eq]
    refine ⟨plan_tearPlan x s, rfl, rfl, rfl, rfl, rfl, rfl, rfl, ?_, rfl, rfl, rfl, rfl, rfl, rfl, rfl, rfl, rfl, rfl, rfl,
      hrsq Rsq.inFlight fun _ => rfl, hrsq Rsq.link fun _ => rfl, hrsq Rsq.record fun _ => rfl,
      hrsq Rsq.faults fun _ => rfl, fun hl hd => ⟨waiting_tearPlan hl hd, isReadOf_iff⟩⟩
    exact congrArg (List.filter fun w => w.entry.owner != x) (hrsq Rsq.ended fun _ => rfl)

end Sys2Proof.Machine
end

section
/-! SUPPORT. The plan, the patterns and admission leave the measurement items alone, pointer and round with them: only the
start of a gap moves those. -/

namespace Sys2Proof.Machine

/-! ### Notices, patterns and entries -/

@[simp] theorem msu_notifyAt (x : Subscription) (t : LT) (b : NoticeBody) (s : State) : (notifyAt x t b s).msu = s.msu := rfl
@[simp] theorem msu_notify (x : Subscription) (b : NoticeBody) (s : State) : (notify x b s).msu = s.msu := rfl
@[simp] theorem msu_notifyAppAt (x : Subscription) (t : LT) (b : NoticeBody) (s : State) :
    (notifyAppAt x t b s).msu = s.msu := rfl
@[simp] theorem msu_pageMissed (x : Subscription) (k : Kind) (f : FN) (r : Reason) (s : State) :
    (pageMissed x k f r s).msu = s.msu := rfl
@[simp] theorem msu_clearPending (x : Subscription) (k : Pat) (s : State) : (clearPending x k s).msu = s.msu := rfl
@[simp] theorem msu_dropListen (x : Subscription) (h : Handle) (s : State) : (dropListen x h s).msu = s.msu := rfl
@[simp] theorem msu_dropRead (x : Subscription) (h : Handle) (s : State) : (dropRead x h s).msu = s.msu := rfl
@[simp] theorem msu_dropSelection (x : Subscription) (h : Handle) (s : State) : (dropSelection x h s).msu = s.msu := rfl
@[simp] theorem msu_dropReads (h : Handle) (s : State) : (dropReads h s).msu = s.msu := rfl
@[simp] theorem msu_demand (c : Cmd) (s : State) : (demand c s).msu = s.msu := by
  unfold demand; split <;> rfl
@[simp] theorem msu_removeEntry (h : Handle) (s : State) : (removeEntry h s).msu = s.msu := by
  unfold removeEntry; split <;> rfl
@[simp] theorem msu_tellLoss (x : Subscription) (l : Option LossDetail) (s : State) : (tellLoss x l s).msu = s.msu := by
  unfold tellLoss; split <;> rfl
@[simp] theorem msu_runOnGone (x : Subscription) (h : Handle) (l : Option LossDetail) (s : State) :
    (runOnGone x h l s).msu = s.msu := by
  unfold runOnGone; dsimp only; (repeat' split) <;> simp
@[simp] theorem msu_letRunOn (x : Subscription) (k : Pat) (s : State) : (letRunOn x k s).msu = s.msu := by
  unfold letRunOn; dsimp only; (repeat' split) <;> simp
@[simp] theorem msu_memberGone (x : Subscription) (k : Pat) (h : Handle) (l : Option LossDetail) (s : State) :
    (memberGone x k h l s).msu = s.msu := by
  unfold memberGone; dsimp only; (repeat' split) <;> simp
@[simp] theorem msu_tellLost (e : Entry) (w : LossKind) (r : Reason) (s : State) : (tellLost e w r s).msu = s.msu := by
  unfold tellLost; (repeat' split) <;> simp
@[simp] theorem msu_partnerLeaves (e : Entry) (s : State) : (partnerLeaves e s).msu = s.msu := by
  unfold partnerLeaves; (repeat' split) <;> simp
@[simp] theorem msu_cutOff (e : Entry) (s : State) : (cutOff e s).msu = s.msu := by
  unfold cutOff; split <;> simp
@[simp] theorem msu_offAtOnce (e : Entry) (s : State) : (offAtOnce e s).msu = s.msu := by
  unfold offAtOnce; split <;> simp
@[simp] theorem msu_abortEntry (e : Entry) (r : Reason) (s : State) : (abortEntry e r s).msu = s.msu := by simp [abortEntry]
@[simp] theorem msu_displaceEntry (e : Entry) (r : Reason) (s : State) : (displaceEntry e r s).msu = s.msu := by
  simp [displaceEntry]
@[simp] theorem msu_cutEntry (e : Entry) (r : Reason) (s : State) : (cutEntry e r s).msu = s.msu := by simp [cutEntry]
@[simp] theorem msu_dropEntry (e : Entry) (s : State) : (dropEntry e s).msu = s.msu := by simp [dropEntry]

theorem msu_forEntries {f : Entry → State → State} (hf : ∀ e s, (f e s).msu = s.msu) (es : List Entry) (s : State) :
    (forEntries f es s).msu = s.msu := by
  induction es generalizing s with
  | nil => rfl
  | cons e es ih => rw [forEntries, ih, hf]

@[simp] theorem msu_flushEntry (e : Entry) (s : State) : (flushEntry e s).msu = s.msu := by
  unfold flushEntry; (repeat' split) <;> simp
@[simp] theorem msu_flushSub (x : Subscription) (s : State) : (flushSub x s).msu = s.msu := msu_forEntries msu_flushEntry _ _
@[simp] theorem msu_dropSync (x : Subscription) (r : HandoverRecord) (s : State) : (dropSync x r s).msu = s.msu := by
  unfold dropSync; split <;> simp

/-! ### Admission and occurrences -/

@[simp] theorem msu_yieldTurn (x : Subscription) (h : Handle) (s : State) : (yieldTurn x h s).msu = s.msu := by
  unfold yieldTurn; (repeat' split) <;> simp
@[simp] theorem msu_yieldEntry (e : Entry) (s : State) : (yieldEntry e s).msu = s.msu := by
  unfold yieldEntry; split <;> simp
@[simp] theorem msu_spendCredit (n : Nat) (s : State) : (spendCredit n s).msu = s.msu := rfl
@[simp] theorem msu_cutBack (ms : List Entry) (e : Entry) (s : State) : (cutBack ms e s).msu = s.msu := by
  unfold cutBack; (repeat' split) <;> simp
@[simp] theorem msu_defeat (ms : List Entry) (e : Entry) (s : State) : (defeat ms e s).msu = s.msu := by
  unfold defeat; (repeat' split) <;> simp
@[simp] theorem msu_placeOne (m : Bool) (e : Entry) (s : State) : (placeOne m e s).2.msu = s.msu := by
  unfold placeOne; (repeat' split) <;> simp
@[simp] theorem msu_linkPartners (h g : Handle) (s : State) : (linkPartners h g s).msu = s.msu := rfl
@[simp] theorem msu_place (m : Bool) (ms : List Entry) (s : State) : (place m ms s).2.msu = s.msu := by
  unfold place; dsimp only; (repeat' split) <;> simp

theorem msu_admit (m : Bool) (ms : List Entry) (s : State) : ((admitEntries m ms s).after s).msu = s.msu := by
  unfold admitEntries; (repeat' split) <;> simp [Verdict.after, msu_forEntries]

@[simp] theorem msu_holdLost (x : Subscription) (k : Pat) (ms : List Entry) (s : State) : (holdLost x k ms s).msu = s.msu := by
  unfold holdLost; split <;> simp
@[simp] theorem msu_tellOccurrenceLost (x : Subscription) (k : Pat) (d : Kind) (f : FrameTime) (r : Reason) (s : State) :
    (tellOccurrenceLost x k d f r s).msu = s.msu := by
  unfold tellOccurrenceLost; split <;> simp
@[simp] theorem msu_writeListen (x : Subscription) (k : Pat) (f : FN) (hs : List Handle) (s : State) :
    (writeListen x k f hs s).msu = s.msu := by
  unfold writeListen; split <;> simp
@[simp] theorem msu_applyStagedPaging (x : Subscription) (s : State) : (applyStagedPaging x s).msu = s.msu := by
  unfold applyStagedPaging; split <;> simp

@[simp] theorem msu_offer (x : Subscription) (k : Pat) (f : FN) (ms : List Entry) (s : State) :
    (offer x k f ms s).msu = s.msu := by
  unfold offer; dsimp only
  generalize ht : updPattern x k _ s = t
  have hm : t.msu = s.msu := by subst ht; rfl
  have ha := msu_admit false ms t
  split <;> rename_i hv <;> rw [hv] at ha
  · rw [msu_writeListen, updPattern_msu, ← hm]; exact ha
  · rw [msu_holdLost, msu_tellOccurrenceLost, hm]
  · rw [msu_holdLost, ← hm]; exact ha

@[simp] theorem msu_offerCall (x : Subscription) (p : CallPattern) (f : FN) (ms : List Entry) (s : State) :
    (offerCall x p f ms s).msu = s.msu := by
  unfold offerCall; split <;> simp
@[simp] theorem msu_materialisePage (x : Subscription) (s : State) : (materialisePage x s).msu = s.msu := by
  unfold materialisePage; dsimp only; (repeat' split) <;> simp
@[simp] theorem msu_materialiseCall (x : Subscription) (s : State) : (materialiseCall x s).msu = s.msu := by
  unfold materialiseCall; (repeat' split) <;> simp
@[simp] theorem msu_materialiseMeas (x : Subscription) (s : State) : (materialiseMeas x s).msu = s.msu := by
  unfold materialiseMeas; (repeat' split) <;> simp
@[simp] theorem msu_materialise (x : Subscription) (k : Pat) (s : State) : (materialise x k s).msu = s.msu := by
  unfold materialise; (repeat' split) <;> simp
@[simp] theorem msu_rematerialise (x : Subscription) (k : Pat) (f : Option FN) (s : State) :
    (rematerialise x k f s).msu = s.msu := by
  unfold rematerialise; dsimp only; (repeat' split) <;> simp [msu_forEntries]

end Sys2Proof.Machine
end

section
/-! SUPPORT. HANDOVER_CONFIRM (R156), the first part of O41. -/

namespace Sys2Proof.Machine

section
variable {x : Subscription} {s : State} {r : HandoverRecord}

@[simp] theorem base_resumePatterns (x : Subscription) (s : State) : base (resumePatterns x s) = base s := by
  unfold resumePatterns; dsimp only; split <;> simp

/-- The record held aside as a confirmation puts it back: with the serving cell's level (R156). -/
def confirmedHeld (l : Option Int) (r : HandoverRecord) : Option (Neighbour × Nat) :=
  r.held.map (fun p => ({ p.1 with level := l }, p.2))

/-- The state in which a confirmation has settled ring, level and fallback timebase (R145, R156). -/
def confirmedRing (x : Subscription) (r : HandoverRecord) (s : State) : State :=
  let s2 := returnHeld x (confirmedHeld (s.cxm.get x).level r) (setResume x none s)
  setFallback none (match r.fallbackCell with
    | some f => swapRing x r.tag r.channel r.offset f.cell f.level s2
    | none => s2)

theorem confirmHandover_eq (x : Subscription) (r : HandoverRecord) (s : State) : confirmHandover x r s =
    notify x (.handoverDone r.tag r.channel)
      (resumePatterns x (returnContext x (setHandover x none (confirmedRing x r s)))) := rfl

/-- The level of the context after a confirmation (R145). -/
def confirmedLevel (x : Subscription) (r : HandoverRecord) (s : State) : Option Int :=
  match r.fallbackCell with
  | some _ => swappedLevel r.tag r.channel (returned (confirmedHeld (s.cxm.get x).level r) (s.msu.get x).ring)
  | none => (s.cxm.get x).level

theorem returnHeld_only (x : Subscription) (held : Option (Neighbour × Nat)) (s : State) :
    ∃ m c, returnHeld x held s = { s with msu := m, selection := c } := by
  rcases held with _ | ⟨n, p⟩
  · exact ⟨s.msu, s.selection, rfl⟩
  · exact ⟨_, _, rfl⟩

theorem returnHeld_ring (x : Subscription) (held : Option (Neighbour × Nat)) (s : State) :
    ((returnHeld x held s).msu.get x).ring = returned held (s.msu.get x).ring := by
  obtain ⟨_, _, _, _, _, hm, _⟩ := returnHeld_kept x held s
  rw [hm, PerSub.get_upd_self]

theorem returnHeld_other (x : Subscription) (held : Option (Neighbour × Nat)) (s : State) :
    (returnHeld x held s).msu.get x.other = s.msu.get x.other := by
  obtain ⟨_, _, _, _, _, hm, _⟩ := returnHeld_kept x held s
  rw [hm, PerSub.get_upd_other]

/-- All that settling ring, level and fallback timebase changes. -/
theorem confirmedRing_only (x : Subscription) (r : HandoverRecord) (s : State) : ∃ m c, confirmedRing x r s = { s with
      cxm := s.cxm.set x { s.cxm.get x with level := confirmedLevel x r s },
      tbu := { s.tbu with fallback := none },
      ceu := { s.ceu with items := s.ceu.items.set x { s.ceu.items.get x with resume := none } },
      msu := m, selection := c } := by
  have hself : s.cxm.set x (s.cxm.get x) = s.cxm := by cases x <;> rfl
  have hring := returnHeld_ring x (confirmedHeld (s.cxm.get x).level r) (setResume x none s)
  obtain ⟨m, c, hs2⟩ := returnHeld_only x (confirmedHeld (s.cxm.get x).level r) (setResume x none s)
  unfold confirmedRing confirmedLevel
  rw [hs2] at hring ⊢
  cases r.fallbackCell with
  | none =>
    dsimp only
    rw [hself]
    exact ⟨m, c, rfl⟩
  | some f =>
    dsimp only
    rw [swapRing_eq, hring]
    exact ⟨_, _, rfl⟩

/-- Where the target's record is held and the ring has none of its cell, the old serving cell takes its place, and the
context's level stays (R145, R154). -/
theorem confirmedRing_held {n : Neighbour} {p : Nat} {f : FallbackCell} (hh : r.held = some (n, p))
    (hf : r.fallbackCell = some f) (hp : p ≤ (s.msu.get x).ring.length) (ht : n.tag = r.tag) (hc : n.channel = r.channel)
    (hn : ∀ k ∈ (s.msu.get x).ring, ¬ (k.tag = r.tag ∧ k.channel = r.channel)) :
    (confirmedRing x r s).msu.get x =
        { s.msu.get x with ring := (s.msu.get x).ring.insertIdx p (oldServing f.cell f.level r.offset) } ∧
      confirmedLevel x r s = (s.cxm.get x).level := by
  have hnot : ({ tag := r.tag, channel := r.channel } : Cell) ∉ cellsOf (s.msu.get x).ring := by
    intro hm
    obtain ⟨k, hk, he⟩ := List.mem_map.1 hm
    exact hn k hk ⟨congrArg Cell.tag he, congrArg Cell.channel he⟩
  have hcell : ({ n with level := (s.cxm.get x).level } : Neighbour).cell = { tag := r.tag, channel := r.channel } := by
    rw [← ht, ← hc]; rfl
  obtain ⟨hpos, hset⟩ := swapped_insertIdx (o := oldServing f.cell f.level r.offset) hcell hnot hp
  have hlen : p < ((s.msu.get x).ring.insertIdx p { n with level := (s.cxm.get x).level }).length := by
    rw [List.length_insertIdx_of_le_length hp]; omega
  constructor
  · unfold confirmedRing confirmedHeld
    rw [hf, hh]
    dsimp only [Option.map_some]
    rw [swapRing_eq]
    simp [setFallback, voidSelection, returnHeld, setResume, swapped, hpos, hset]
  · unfold confirmedLevel confirmedHeld swappedLevel
    rw [hf, hh]
    dsimp only [Option.map_some, returned]
    rw [hpos, Option.bind_some, List.getElem?_eq_getElem hlen, Option.bind_some, List.getElem_insertIdx_self]

theorem confirmedRing_other (x : Subscription) (r : HandoverRecord) (s : State) :
    (confirmedRing x r s).msu.get x.other = s.msu.get x.other := by
  unfold confirmedRing
  cases r.fallbackCell with
  | none => simp [setFallback, returnHeld_other, setResume]
  | some f => simp [setFallback, swapRing_eq, voidSelection, returnHeld_other, setResume]

/-- The state whose patterns a confirmation resumes (R32, R156). -/
def confirmedState (x : Subscription) (r : HandoverRecord) (s : State) : State :=
  returnContext x (setHandover x none (confirmedRing x r s))

theorem confirmedState_only (x : Subscription) (r : HandoverRecord) (s : State) : ∃ m c, confirmedState x r s = { s with
      cxm := s.cxm.set x (backContext
        ((s.ceu.items.get x).timer.map (fun n => s.tbu.lt + BitVec.ofNat 48 (n * 260000)))
        { s.cxm.get x with level := confirmedLevel x r s }),
      hou := s.hou.set x { s.hou.get x with record := none },
      tbu := { s.tbu with fallback := none },
      ceu := { s.ceu with items := s.ceu.items.set x { s.ceu.items.get x with resume := none } },
      msu := m, selection := c } := by
  have hset {α : Type} (p : PerSub α) (v w : α) : (p.set x v).set x w = p.set x w := by cases x <;> rfl
  obtain ⟨m, c, h⟩ := confirmedRing_only x r s
  refine ⟨m, c, ?_⟩
  rw [confirmedState, returnContext_eq, h]
  simp [setHandover, updCtx, updHou, now, PerSub.upd, hset]
  rfl

theorem handoverConfirmReply_switched (hs : (s.cxm.get x).state = .handover) (hr : (s.hou.get x).record = some r)
    (hp : r.phase = .switched) : handoverConfirmReply x s = .accept .ok .empty
      (giveNotice x.port { body := .handoverDone r.tag r.channel, sub := some x, stamp := s.tbu.lt }
        (resumePatterns x (confirmedState x r s))) := by
  have hlt : now (resumePatterns x (confirmedState x r s)) = s.tbu.lt := by
    obtain ⟨m, c, h⟩ := confirmedState_only x r s
    rw [now, tbu_of_base (base_resumePatterns _ _), h]
  unfold handoverConfirmReply
  rw [handoverIn_iff.2 ⟨hs, hr, hp⟩]
  dsimp only
  rw [confirmHandover_eq, notify, notifyAt]
  exact congrArg (fun n => Reply.accept .ok .empty
    (giveNotice x.port { body := .handoverDone r.tag r.channel, sub := some x, stamp := n }
      (resumePatterns x (confirmedState x r s)))) hlt

end

end Sys2Proof.Machine
end

section
/-! SUPPORT. What the SYNC's removal and a flush do to the plan, the waiting commands and the notices (R157, R102), for O41. -/

namespace Sys2Proof.Machine

/-! ### The plan -/

theorem handles_nodup {l : List Entry} (h : slotsDistinct l = true) : (l.map Entry.handle).Nodup :=
  List.pairwise_map.2 ((pairwise_of_slotsDistinct h).imp fun hne he => hne he.symm)

/-- In a plan of distinct slots a handle names one entry. -/
theorem eq_of_handle {l : List Entry} (h : slotsDistinct l = true) {e f : Entry} (he : e ∈ l) (hf : f ∈ l)
    (heq : e.handle = f.handle) : e = f := List.inj_on_of_nodup_map (handles_nodup h) he hf heq

@[simp] theorem plan_offAtOnce (e : Entry) (s : State) : (offAtOnce e s).plan = s.plan := by
  unfold offAtOnce; split <;> simp
@[simp] theorem plan_dropEntry (e : Entry) (s : State) : (dropEntry e s).plan = s.plan.filter (fun f => f.handle != e.handle) := by
  simp [dropEntry, dropSelection, dropListen]

/-- The entries that a flush takes (R152 step 3, R102). -/
def flushes (e : Entry) : Bool := e.origin == .oneShot || (e.origin == .pageRead && e.state != .executing)

theorem plan_flushEntry (e : Entry) (s : State) :
    (flushEntry e s).plan = if flushes e then s.plan.filter (fun f => f.handle != e.handle) else s.plan := by
  unfold flushEntry flushes
  cases e.origin with
  | oneShot => simp [notify, notifyAt]
  | pageRead =>
    by_cases h : e.state = .executing
    · simp [h]
    · simp [h, dropRead, pageMissed, notify, notifyAt, notifyAppAt]
  | _ => simp

theorem plan_flushEntries (es : List Entry) (s : State) : (forEntries flushEntry es s).plan =
    s.plan.filter (fun g => !es.any (fun e => flushes e && e.handle == g.handle)) := by
  induction es generalizing s with
  | nil => simp [forEntries]
  | cons e es ih =>
    rw [forEntries, ih, plan_flushEntry]
    by_cases h : flushes e = true
    · rw [if_pos h, List.filter_filter]
      refine List.filter_congr fun g _ => ?_
      rw [List.any_cons, h, Bool.true_and, Bool.not_or, Bool.and_comm, bne, BEq.comm]
    · rw [if_neg h]
      refine List.filter_congr fun g _ => ?_
      rw [List.any_cons, Bool.eq_false_iff.2 h, Bool.false_and, Bool.false_or]

theorem plan_flushSub {x : Subscription} {s : State} (h : slotsDistinct s.plan = true) :
    (flushSub x s).plan = s.plan.filter (fun e => !(e.owner == x && flushes e)) := by
  rw [flushSub, plan_flushEntries]
  refine List.filter_congr fun g hg => ?_
  congr 1
  rw [List.any_filter, Bool.eq_iff_iff, List.any_eq_true]
  refine ⟨?_, fun hk => ⟨g, hg, by simpa [and_assoc] using hk⟩⟩
  rintro ⟨e, he, hk⟩
  simp only [Bool.and_eq_true, beq_iff_eq] at hk
  obtain ⟨ho, hfl, hh⟩ := hk
  rw [← eq_of_handle h he hg hh]
  simp [ho, hfl]

/-- The SYNC of a handover, as its record names it (R149). -/
def isSyncOf (x : Subscription) (r : HandoverRecord) (e : Entry) : Bool :=
  e.handle == r.sync && e.kind == .sync && e.owner == x

theorem syncInPlan_some {x : Subscription} {r : HandoverRecord} {s : State} {e : Entry} (h : syncInPlan x r s = some e) :
    e ∈ s.plan ∧ isSyncOf x r e = true := by
  obtain ⟨hf, hk⟩ := Option.filter_eq_some_iff.1 h
  have hh := List.find?_some hf
  refine ⟨List.mem_of_find?_eq_some hf, ?_⟩
  rw [isSyncOf, Bool.and_assoc, hh]
  exact hk

theorem syncInPlan_of {x : Subscription} {r : HandoverRecord} {s : State} {e : Entry} (hd : slotsDistinct s.plan = true)
    (he : e ∈ s.plan) (hs : isSyncOf x r e = true) : syncInPlan x r s = some e := by
  rw [isSyncOf, Bool.and_assoc, Bool.and_eq_true, beq_iff_eq] at hs
  obtain ⟨hh, hk⟩ := hs
  refine Option.filter_eq_some_iff.2 ⟨?_, hk⟩
  obtain ⟨f, hf⟩ : ∃ f, findEntry r.sync s = some f :=
    Option.isSome_iff_exists.1 (List.find?_isSome.2 ⟨e, he, by simp [hh]⟩)
  have hfh : f.handle = r.sync := by simpa using List.find?_some hf
  rw [hf, eq_of_handle hd he (List.mem_of_find?_eq_some hf) (hh.trans hfh.symm)]

theorem plan_dropSync {x : Subscription} {r : HandoverRecord} {s : State} (hd : slotsDistinct s.plan = true) :
    (dropSync x r s).plan = s.plan.filter (fun e => !isSyncOf x r e) := by
  unfold dropSync
  split
  · rename_i e he
    obtain ⟨hm, hs⟩ := syncInPlan_some he
    rw [plan_dropEntry]
    refine List.filter_congr fun f hf => ?_
    rw [bne, Bool.not_inj_iff, Bool.eq_iff_iff, beq_iff_eq]
    refine ⟨fun h => eq_of_handle hd hf hm h ▸ hs, fun h => ?_⟩
    rw [isSyncOf, Bool.and_assoc, Bool.and_eq_true, beq_iff_eq] at h hs
    exact h.1.trans hs.1.symm
  · rename_i hn
    refine (List.filter_eq_self.2 fun f hf => ?_).symm
    rw [Bool.not_eq_true', Bool.eq_false_iff]
    intro h
    rw [syncInPlan_of hd hf h] at hn
    cases hn

theorem slotsDistinct_filter {l : List Entry} (p : Entry → Bool) (h : slotsDistinct l = true) :
    slotsDistinct (l.filter p) = true := by
  induction l with
  | nil => rfl
  | cons e l ih =>
    simp only [slotsDistinct, Bool.and_eq_true, List.all_eq_true] at h
    rw [List.filter_cons]
    split
    · simp only [slotsDistinct, Bool.and_eq_true, List.all_eq_true]
      exact ⟨fun f hf => h.1 f (List.mem_filter.1 hf).1, ih h.2⟩
    · exact ih h.2

/-! ### The OFF of an EXECUTING entry -/

theorem rest_offAtOnce (e : Entry) (s : State) : (offAtOnce e s).rsq.rest = s.rsq.rest := by
  unfold offAtOnce; split
  · rfl
  · exact rest_cutOff e s

theorem rest_dropEntry (e : Entry) (s : State) : (dropEntry e s).rsq.rest = s.rsq.rest :=
  (rest_removeEntry _ _).trans (rest_offAtOnce _ _)

theorem rest_flushEntry (e : Entry) (s : State) : (flushEntry e s).rsq.rest = s.rsq.rest := by
  unfold flushEntry
  (repeat' split)
  · exact (rest_removeEntry _ _).trans (rest_offAtOnce _ _)
  · rfl
  · exact rest_removeEntry _ _
  · rfl

theorem rest_dropSync (x : Subscription) (r : HandoverRecord) (s : State) : (dropSync x r s).rsq.rest = s.rsq.rest := by
  unfold dropSync; split
  · exact rest_dropEntry _ _
  · rfl

/-- An OFF waits. -/
def OffWaits (s : State) : Prop := Cmd.off .none ∈ s.rsq.waiting

theorem offWaits_removeEntry {h : Handle} {s : State} (k : OffWaits s) : OffWaits (removeEntry h s) := by
  unfold removeEntry; split
  · exact List.mem_filter.2 ⟨k, rfl⟩
  · exact k

theorem offWaits_dropReads {h : Handle} {s : State} (k : OffWaits s) : OffWaits (dropReads h s) :=
  List.mem_filter.2 ⟨k, rfl⟩

theorem offWaits_demand {c : Cmd} {s : State} (k : OffWaits s) : OffWaits (demand c s) := by
  unfold demand; split
  · exact List.mem_append_left _ k
  · exact k

theorem offWaits_offAtOnce {e : Entry} {s : State} (k : OffWaits s) : OffWaits (offAtOnce e s) := by
  unfold offAtOnce cutOff
  (repeat' split)
  · exact offWaits_dropReads k
  · exact offWaits_demand (offWaits_dropReads k)
  · exact k

theorem offWaits_flushEntry {e : Entry} {s : State} (k : OffWaits s) : OffWaits (flushEntry e s) := by
  unfold flushEntry
  (repeat' split)
  · exact offWaits_removeEntry (offWaits_offAtOnce k)
  · exact k
  · exact offWaits_removeEntry k
  · exact k

theorem offWaits_flushEntries {es : List Entry} {s : State} (k : OffWaits s) : OffWaits (forEntries flushEntry es s) := by
  induction es generalizing s with
  | nil => exact k
  | cons e es ih => exact ih (offWaits_flushEntry k)

/-- An EXECUTING entry that is no gap brings an OFF (R77). -/
theorem offWaits_of_executing {e : Entry} {s : State} (hl : s.rsq.link = .up) (he : e.state = .executing)
    (hg : e.kind ≠ .measureGap) : OffWaits (offAtOnce e s) := by
  rw [offAtOnce, if_neg fun h => hg h.2.1, OffWaits, cutOff_waiting e s hl, if_pos he]
  exact List.mem_append_right _ (List.mem_singleton_self _)

theorem offWaits_dropSync {x : Subscription} {r : HandoverRecord} {s : State} {e : Entry} (hd : slotsDistinct s.plan = true)
    (hl : s.rsq.link = .up) (he : e ∈ s.plan) (hs : isSyncOf x r e = true) (hx : e.state = .executing) :
    OffWaits (dropSync x r s) := by
  have hk : e.kind ≠ .measureGap := by
    simp only [isSyncOf, Bool.and_eq_true, beq_iff_eq] at hs
    rw [hs.1.2]; exact nofun
  unfold dropSync
  rw [syncInPlan_of hd he hs]
  exact offWaits_removeEntry (offWaits_of_executing hl hx hk)

theorem offWaits_flushing {es : List Entry} {s : State} {e : Entry} (hl : s.rsq.link = .up) (he : e ∈ es)
    (hf : flushes e = true) (hx : e.state = .executing) (hg : e.kind ≠ .measureGap) :
    OffWaits (forEntries flushEntry es s) := by
  induction es generalizing s with
  | nil => cases he
  | cons f es ih =>
    rcases List.mem_cons.1 he with rfl | he
    · have ho : e.origin = .oneShot := by simpa [flushes, hx] using hf
      refine offWaits_flushEntries (s := flushEntry e s) ?_
      unfold flushEntry
      rw [ho]
      exact offWaits_removeEntry (offWaits_of_executing hl hx hg)
    · exact ih ((link_of_rest (rest_flushEntry f s)).trans hl) he

/-! ### The notices of a flush -/

/-- The FLUSHED notices of entries of x, in the order given (R102, R152). -/
def tellFlushed (x : Subscription) (t : LT) (es : List Entry) (q : PerPort NoticeQueue) : PerPort NoticeQueue :=
  es.foldl (fun q e => q.upd x.port (fun n => n.push
    { body := .flushed { handle := e.handle, kind := e.kind, reason := none, level := none }, sub := some x,
      stamp := t })) q

/-- Queues and missed-page count. -/
def told (s : State) : PerPort NoticeQueue × PerSub Nat := (s.queues, s.missed)

theorem told_demand (c : Cmd) (s : State) : told (demand c s) = told s := by
  unfold demand; split <;> rfl
theorem told_removeEntry (h : Handle) (s : State) : told (removeEntry h s) = told s := by
  unfold removeEntry; split <;> rfl
theorem told_offAtOnce (e : Entry) (s : State) : told (offAtOnce e s) = told s := by
  unfold offAtOnce cutOff
  (repeat' split)
  · rfl
  · exact told_demand _ _
  · rfl
theorem told_dropSync (x : Subscription) (r : HandoverRecord) (s : State) : told (dropSync x r s) = told s := by
  unfold dropSync; split
  · exact (told_removeEntry _ _).trans (told_offAtOnce _ _)
  · rfl

/-- A flush of entries of x with no PAGE_READ among them tells the one-shots in order, and counts no page as missed. -/
theorem told_flushEntries {x : Subscription} (es : List Entry) {s : State}
    (h : ∀ e ∈ es, e.owner = x ∧ e.origin ≠ .pageRead) :
    told (forEntries flushEntry es s) = (tellFlushed x s.tbu.lt (es.filter flushes) s.queues, s.missed) := by
  induction es generalizing s with
  | nil => rfl
  | cons e es ih =>
    obtain ⟨ho, hp⟩ := h e List.mem_cons_self
    have hrest := ih (s := flushEntry e s) fun f hf => h f (List.mem_cons_of_mem _ hf)
    rw [tbu_of_base (base_flushEntry e s)] at hrest
    rw [forEntries, hrest]
    by_cases hs : e.origin = .oneShot
    · have hf : flushes e = true := by simp [flushes, hs]
      have ht : told (removeEntry e.handle (offAtOnce e s)) = told s := (told_removeEntry _ _).trans (told_offAtOnce _ _)
      have hlt : now (removeEntry e.handle (offAtOnce e s)) = s.tbu.lt := by
        rw [now, tbu_of_base (base_removeEntry _ _), tbu_of_base (base_offAtOnce _ _)]
      have he : flushEntry e s = notify x (.flushed (windowDetail e none none)) (removeEntry e.handle (offAtOnce e s)) := by
        unfold flushEntry
        rw [hs, ho]
      obtain ⟨hq, hm⟩ := Prod.mk.inj ht
      have hq' : (flushEntry e s).queues = tellFlushed x s.tbu.lt [e] s.queues := by
        rw [he, notify, hlt, ← hq]
        rfl
      have hm' : (flushEntry e s).missed = s.missed := by
        rw [he]
        exact hm
      rw [hq', hm', List.filter_cons, hf]
      rfl
    · have hf : flushes e = false := by simp [flushes, hs, hp]
      have he : flushEntry e s = s := by
        unfold flushEntry
        cases hor : e.origin <;> simp_all
      rw [he, List.filter_cons, hf]
      rfl

end Sys2Proof.Machine
end

section
/-! SUPPORT. The revert of a handover (R157), and O41. -/

namespace Sys2Proof.Machine

section
variable {x : Subscription} {r : HandoverRecord} {b : Timebase} {f : FallbackCell} {s : State}

/-- The state after the SYNC and the flushed entries have left (R157). -/
def flushedState (x : Subscription) (r : HandoverRecord) (s : State) : State :=
  flushSub x (dropSync x r (setResume x none s))

/-- The state in which timing, serving cell and ring are those kept at the switch again (R153, R154, R157). -/
def restoredState (x : Subscription) (r : HandoverRecord) (b : Timebase) (f : FallbackCell) (s : State) : State :=
  returnHeld x r.held (setServing x f.cell f.level (setFallback none (reanchor x b.fnRef b.ltRef (flushedState x r s))))

theorem base_flushedState (x : Subscription) (r : HandoverRecord) (s : State) :
    base (flushedState x r s) = base (setResume x none s) := by
  rw [flushedState, base_flushSub, base_dropSync]

theorem msu_flushedState (x : Subscription) (r : HandoverRecord) (s : State) : (flushedState x r s).msu = s.msu := by
  rw [flushedState, msu_flushSub, msu_dropSync]
  rfl

theorem revertHandover_eq {why : FailReason} (hb : s.tbu.fallback = some (x, b)) (hf : r.fallbackCell = some f) :
    revertHandover x r why s = resumePatterns x (returnContext x (setHandover x none
      (notify x (.handoverFailed why) (rematerialise x .call none (restoredState x r b f s))))) := by
  have hfb : (flushedState x r s).tbu.fallback = some (x, b) := by
    rw [tbu_of_base (base_flushedState x r s)]
    exact hb
  unfold revertHandover restoredState
  unfold flushedState at hfb ⊢
  dsimp only
  rw [hfb, hf]

/-- All that the restored state changes beside plan, sequencer, paging items, notices and selection. -/
theorem restoredState_kept (x : Subscription) (r : HandoverRecord) (b : Timebase) (f : FallbackCell) (s : State) :
    let v := restoredState x r b f s
    v.cxm = s.cxm.set x { s.cxm.get x with serving := some f.cell, level := f.level } ∧
    v.tbu = { s.tbu with record := s.tbu.record.set x (some { b with slew := none }), fallback := none } ∧
    v.ceu = { s.ceu with items := s.ceu.items.set x { s.ceu.items.get x with resume := none } } ∧
    v.hou = s.hou ∧ v.msu = s.msu.set x { s.msu.get x with ring := returned r.held (s.msu.get x).ring } ∧
    v.csc = s.csc ∧ v.votes = s.votes ∧ v.engines = s.engines := by
  have hw := base_flushedState x r s
  have hm := msu_flushedState x r s
  have hcxm := cxm_of_base hw
  have htbu := tbu_of_base hw
  have hceu := ceu_of_base hw
  have hhou := hou_of_base hw
  have hcsc := csc_of_base hw
  have hvotes := votes_of_base hw
  have heng := engines_of_base hw
  unfold restoredState
  generalize flushedState x r s = w at *
  replace hcxm : w.cxm = s.cxm := hcxm
  replace htbu : w.tbu = s.tbu := htbu
  obtain ⟨m, c, hv⟩ := returnHeld_only x r.held (setServing x f.cell f.level (setFallback none (reanchor x b.fnRef b.ltRef w)))
  obtain ⟨_, _, _, _, _, hvm, _⟩ :=
    returnHeld_kept x r.held (setServing x f.cell f.level (setFallback none (reanchor x b.fnRef b.ltRef w)))
  dsimp only
  refine ⟨?_, ?_, ?_, ?_, ?_, ?_, ?_, ?_⟩
  · rw [hv, ← hcxm]; rfl
  · rw [hv, ← htbu]; rfl
  · rw [hv]; exact hceu
  · rw [hv]; exact hhou
  · rw [hvm, ← hm]; rfl
  · rw [hv]; exact hcsc
  · rw [hv]; exact hvotes
  · rw [hv]; exact heng

/-- The whole state a revert leaves before its patterns resume, over the state in which the call frames have been placed
afresh. -/
theorem returnContext_reverted {why : FailReason} {u : State}
    (hc : u.cxm = s.cxm.set x { s.cxm.get x with serving := some f.cell, level := f.level })
    (ht : u.tbu.lt = s.tbu.lt) (hu : (u.ceu.items.get x).timer = (s.ceu.items.get x).timer) (hh : u.hou = s.hou) :
    returnContext x (setHandover x none (notify x (.handoverFailed why) u)) =
      { giveNotice x.port { body := .handoverFailed why, sub := some x, stamp := s.tbu.lt } u with
        hou := s.hou.set x { s.hou.get x with record := none },
        cxm := s.cxm.set x (backContext
          ((s.ceu.items.get x).timer.map (fun n => s.tbu.lt + BitVec.ofNat 48 (n * 260000)))
          { s.cxm.get x with serving := some f.cell, level := f.level }) } := by
  have hset {α : Type} (p : PerSub α) (v w : α) : (p.set x v).set x w = p.set x w := by cases x <;> rfl
  have he : returnContext x (setHandover x none (notify x (.handoverFailed why) u)) =
      { giveNotice x.port { body := .handoverFailed why, sub := some x, stamp := u.tbu.lt } u with
        hou := u.hou.set x { u.hou.get x with record := none },
        cxm := u.cxm.set x (backContext
          ((u.ceu.items.get x).timer.map (fun n => u.tbu.lt + BitVec.ofNat 48 (n * 260000))) (u.cxm.get x)) } := by
    rw [returnContext_eq]
    rfl
  rw [he, ht, hu, hh, hc, hset, PerSub.get_set_self]

/-- An entry as a restored timing re-anchors it (R153). -/
def realigned (x : Subscription) (b : Timebase) (e : Entry) : Entry :=
  if e.owner = x ∧ e.frame.isSome = true then { e with frame := some (frameOf { b with slew := none } e.start) } else e

/-- Restoring timing, serving cell and ring moves entries to their new frame time, and leaves sequencer and notices. -/
theorem restoredState_of_flushed (x : Subscription) (r : HandoverRecord) (b : Timebase) (f : FallbackCell) (s : State) :
    (restoredState x r b f s).plan = (flushedState x r s).plan.map (realigned x b) ∧
      (restoredState x r b f s).rsq = (flushedState x r s).rsq ∧
      told (restoredState x r b f s) = told (flushedState x r s) := by
  unfold restoredState
  generalize flushedState x r s = w
  obtain ⟨m, c, hv⟩ := returnHeld_only x r.held (setServing x f.cell f.level (setFallback none (reanchor x b.fnRef b.ltRef w)))
  rw [hv]
  refine ⟨List.map_congr_left fun e _ => ?_, rfl, rfl⟩
  simp [realigned, hasFrameOf]

theorem plan_flushedState (h : slotsDistinct s.plan = true) : (flushedState x r s).plan =
    s.plan.filter (fun e => !isSyncOf x r e && !(e.owner == x && flushes e)) := by
  have hd : slotsDistinct (setResume x none s).plan = true := h
  have hp := plan_dropSync (x := x) (r := r) hd
  rw [flushedState, plan_flushSub (hp ▸ slotsDistinct_filter _ hd), hp, List.filter_filter]
  exact List.filter_congr fun e _ => Bool.and_comm _ _

theorem plan_restoredState (h : slotsDistinct s.plan = true) : (restoredState x r b f s).plan =
    (s.plan.filter (fun e => !isSyncOf x r e && !(e.owner == x && flushes e))).map (realigned x b) := by
  rw [(restoredState_of_flushed x r b f s).1, plan_flushedState h]

theorem offWaits_flushedState_of_sync (h : slotsDistinct s.plan = true) (hl : s.rsq.link = .up)
    (he : ∃ e ∈ s.plan, isSyncOf x r e = true ∧ e.state = .executing) : OffWaits (flushedState x r s) := by
  obtain ⟨e, he, hs, hx⟩ := he
  exact offWaits_flushEntries (offWaits_dropSync (s := setResume x none s) h hl he hs hx)

theorem offWaits_flushedState_of_flushed (h : slotsDistinct s.plan = true) (hl : s.rsq.link = .up)
    (he : ∃ e ∈ s.plan, isSyncOf x r e = false ∧ (e.owner == x && flushes e) = true ∧ e.kind ≠ .measureGap ∧
      e.state = .executing) : OffWaits (flushedState x r s) := by
  obtain ⟨e, he, hs, hf, hg, hx⟩ := he
  obtain ⟨ho, hf⟩ := Bool.and_eq_true_iff.1 hf
  have hp := plan_dropSync (x := x) (r := r) (s := setResume x none s) h
  refine offWaits_flushing ((link_of_rest (rest_dropSync x r (setResume x none s))).trans hl) ?_ hf hx hg
  refine List.mem_filter.2 ⟨?_, ho⟩
  rw [hp]
  exact List.mem_filter.2 ⟨he, by rw [hs]; rfl⟩

/-- With no PAGE_READ of x in the plan, a revert counts no page as missed and tells the one-shots in plan order. -/
theorem told_flushedState (h : slotsDistinct s.plan = true) (hp : ∀ e ∈ s.plan, e.owner = x → e.origin ≠ .pageRead) :
    told (flushedState x r s) = (tellFlushed x s.tbu.lt
      (s.plan.filter (fun e => !isSyncOf x r e && (e.owner == x && flushes e))) s.queues, s.missed) := by
  have hpl := plan_dropSync (x := x) (r := r) (s := setResume x none s) h
  have hlt : (dropSync x r (setResume x none s)).tbu.lt = s.tbu.lt := by rw [tbu_of_base (base_dropSync _ _ _)]; rfl
  have ht := told_dropSync x r (setResume x none s)
  obtain ⟨hq, hm⟩ := Prod.mk.inj ht
  rw [flushedState, flushSub, told_flushEntries, hlt, hq, hm, hpl, List.filter_filter, List.filter_filter]
  · refine congrArg (fun l => (tellFlushed x s.tbu.lt l s.queues, s.missed)) (List.filter_congr fun e _ => ?_)
    cases isSyncOf x r e <;> cases e.owner == x <;> simp
  · intro e he
    rw [hpl] at he
    obtain ⟨he, ho⟩ := List.mem_filter.1 he
    have ho := beq_iff_eq.1 ho
    exact ⟨ho, hp e (List.mem_filter.1 he).1 ho⟩

/-- What a revert makes of a state, as R157 orders it: the shape that O41 states for HANDOVER_FAIL and for the deadline. -/
theorem revertHandover_reverted {why : FailReason} (hb : s.tbu.fallback = some (x, b)) (hf : r.fallbackCell = some f) :
    let u := rematerialise x .call none (restoredState x r b f s)
    revertHandover x r why s = resumePatterns x
        { giveNotice x.port { body := .handoverFailed why, sub := some x, stamp := s.tbu.lt } u with
          hou := s.hou.set x { s.hou.get x with record := none },
          cxm := s.cxm.set x (backContext
            ((s.ceu.items.get x).timer.map (fun n => s.tbu.lt + BitVec.ofNat 48 (n * 260000)))
            { s.cxm.get x with serving := some f.cell, level := f.level }) } ∧
      u.tbu = { s.tbu with record := s.tbu.record.set x (some { b with slew := none }), fallback := none } ∧
      u.ceu = { s.ceu with items := s.ceu.items.set x { s.ceu.items.get x with resume := none } } ∧
      u.msu = s.msu.set x { s.msu.get x with ring := returned r.held (s.msu.get x).ring } ∧
      u.csc = s.csc ∧ u.votes = s.votes ∧ u.engines = s.engines := by
  have hu := base_rematerialise x .call none (restoredState x r b f s)
  have hm := msu_rematerialise x .call none (restoredState x r b f s)
  obtain ⟨vcxm, vtbu, vceu, vhou, vmsu, vcsc, vvotes, veng⟩ := restoredState_kept x r b f s
  rw [revertHandover_eq hb hf]
  generalize rematerialise x .call none (restoredState x r b f s) = u at *
  have utbu := (tbu_of_base hu).trans vtbu
  have uceu := (ceu_of_base hu).trans vceu
  refine ⟨?_, utbu, uceu, hm.trans vmsu, (csc_of_base hu).trans vcsc, (votes_of_base hu).trans vvotes,
    (engines_of_base hu).trans veng⟩
  rw [returnContext_reverted ((cxm_of_base hu).trans vcxm) (by rw [utbu]) (by rw [uceu, PerSub.get_set_self])
    ((hou_of_base hu).trans vhou)]

theorem handoverIn_switched_none
    (h : ∀ r, ¬ ((s.cxm.get x).state = .handover ∧ (s.hou.get x).record = some r ∧ r.phase = .switched)) :
    handoverIn x .switched s = none := by
  rw [Option.eq_none_iff_forall_ne_some]
  exact fun r hr => h r (handoverIn_iff.1 hr)

theorem confirmDue_eq {d : LT} (hl : ltRuns s = true) (hr : (s.hou.get x).record = some r) (hp : r.phase = .switched)
    (hd : r.confirm = some d) (ht : ltReached s.tbu.lt d = true) : confirmDue x s = some r := by
  rw [confirmDue, if_pos hl, Option.filter_eq_some_iff]
  exact ⟨hr, by simp [hp, hd, reachedBy, now, ht]⟩

end

/-- Settles O41. -/
theorem handoverEnds : Obligations.HandoverEnds := by
  refine ⟨fun x tag s h => ⟨fun hn => ?_, ?_⟩, ?_, fun x tag s h hn => ?_⟩
  · refine serve_refuse h ?_
    rw [handoverConfirmReply, handoverIn_switched_none hn]
  · rintro r ⟨hs, hr, hp⟩
    have hother := confirmedRing_other x r s
    have hheld := @confirmedRing_held x s r
    have hmsu : (confirmedState x r s).msu = (confirmedRing x r s).msu := rfl
    rw [← hmsu] at hother hheld
    refine ⟨confirmedState x r s, confirmedLevel x r s, serve_accept h (handoverConfirmReply_switched hs hr hp), ?_⟩
    obtain ⟨m, c, hu⟩ := confirmedState_only x r s
    refine ⟨?_, by rw [hu], by rw [hu], by rw [hu], by rw [hu], by rw [hu], by rw [hu], hother,
      fun n p f hn hf hle ht hc hk => hheld hn hf hle ht hc hk⟩
    rw [hu]
    unfold backContext
    rcases (s.cxm.get x).prior with _ | _ | _ | _ <;> rfl
  · intro x r b f s hs hr hp hb hf c m kept back ring resumed reverted
    have hrev (why : FailReason) : reverted why (revertHandover x r why s) := by
      obtain ⟨ht, htbu, hceu, hmsu, hcsc, hvotes, heng⟩ := revertHandover_reverted (why := why) hb hf
      refine ⟨_, ?_, htbu, hceu, hmsu, hcsc, hvotes, heng, fun hd => ⟨_, rfl, plan_restoredState hd, ?_, ?_, fun hpr => ?_⟩⟩
      · rw [ht]
        have hback : back = backContext ((s.ceu.items.get x).timer.map (fun n => s.tbu.lt + BitVec.ofNat 48 (n * 260000)))
            { s.cxm.get x with serving := some f.cell, level := f.level } := by
          rcases hprior : (s.cxm.get x).prior with _ | _ | _ | _ <;> simp [back, backContext, kept, c, hprior]
        rw [hback]
        rfl
      · intro hl he
        rw [(restoredState_of_flushed x r b f s).2.1]
        exact offWaits_flushedState_of_sync hd hl he
      · intro hl he
        rw [(restoredState_of_flushed x r b f s).2.1]
        exact offWaits_flushedState_of_flushed hd hl he
      · have htold := (restoredState_of_flushed x r b f s).2.2.trans (told_flushedState hd hpr)
        exact ⟨congrArg Prod.snd htold, congrArg Prod.fst htold⟩
    refine ⟨fun tag h => ⟨_, serve_accept h ?_, hrev .request⟩, fun d hl hd ht => ⟨_, ?_, hrev .deadline⟩⟩
    · rw [handoverFailReply, handoverIn_iff.2 ⟨hs, hr, hp⟩]
    · change execConfirmDeadline x s = _
      rw [execConfirmDeadline, confirmDue_eq hl hr hp hd ht]
      rfl
  · refine serve_refuse h ?_
    rw [handoverFailReply, handoverIn_switched_none hn]

end Sys2Proof.Machine
end

section
/-! SUPPORT. Every row keeps the law of the tune-away credit (O8): what only spends it, the claim's taking and release, the
count of refill frames, and SET_POLICY (R55). -/

namespace Sys2Proof.Machine

section
variable {x : Subscription} {s t : State} {q : Port}

/-! ### What the law reads -/

/-- The law reads the claim, the settings and the credit. -/
theorem creditOk_same (hc : t.ceu.claim = s.ceu.claim) (ha : t.air = s.air) (hr : t.credit = s.credit)
    (k : creditOk s = true) : creditOk t = true := by
  unfold creditOk at k ⊢
  rwa [hc, ha, hr]

/-- R55: with no claim the credit and the refill count are 0. -/
theorem creditOk_unclaimed (hc : t.ceu.claim = none) (hr : t.credit = { credit := 0, refill := 0 }) : creditOk t = true := by
  simp [creditOk, hc, hr]

/-- An operation that leaves every block of `base` and the credit alone. -/
theorem creditOk_untouched (hb : base t = base s) (hr : t.credit = s.credit) (k : creditOk s = true) : creditOk t = true :=
  creditOk_base hb (.of_eq hr) k

theorem creditOk_settle (k : creditOk s = true) : creditOk (settle s) = true := creditOk_base (base_settle s) (spent_settle s) k
theorem creditOk_activate {p : Pat} (k : creditOk s = true) : creditOk (Machine.activate x p s) = true :=
  creditOk_base (base_activate x p s) (spent_activate x p s) k
theorem creditOk_rematerialise {p : Pat} {f : Option FN} (k : creditOk s = true) : creditOk (rematerialise x p f s) = true :=
  creditOk_base (base_rematerialise x p f s) (spent_rematerialise x p f s) k
theorem creditOk_deactivate {p : Pat} (k : creditOk s = true) : creditOk (deactivate x p s) = true :=
  creditOk_untouched (base_deactivate x p s) (credit_deactivate x p s) k
theorem creditOk_flushSub (k : creditOk s = true) : creditOk (flushSub x s) = true :=
  creditOk_untouched (base_flushSub x s) (credit_flushSub x s) k
theorem creditOk_notify {b : NoticeBody} (k : creditOk s = true) : creditOk (notify x b s) = true :=
  creditOk_untouched (base_notify x b s) (credit_notify x b s) k
theorem creditOk_resumePatterns (k : creditOk s = true) : creditOk (resumePatterns x s) = true :=
  creditOk_base (base_resumePatterns x s) (spent_resumePatterns x s) k
theorem creditOk_swapRing {n c : Nat} {o : Int} {old : Cell} {l : Option Int} (k : creditOk s = true) :
    creditOk (swapRing x n c o old l s) = true :=
  creditOk_keep (ctl_swapRing x n c o old l s) (.of_eq (credit_swapRing x n c o old l s)) k
theorem creditOk_returnHeld {h : Option (Neighbour × Nat)} (k : creditOk s = true) : creditOk (returnHeld x h s) = true :=
  creditOk_keep (ctl_returnHeld x h s) (.of_eq (credit_returnHeld x h s)) k
theorem creditOk_dropSync {r : HandoverRecord} (k : creditOk s = true) : creditOk (dropSync x r s) = true :=
  creditOk_untouched (base_dropSync x r s) (credit_dropSync x r s) k
theorem creditOk_bankSwitch (k : creditOk s = true) : creditOk (bankSwitch x s) = true :=
  creditOk_keep (ctl_bankSwitch x s) (.of_eq (credit_bankSwitch x s)) k
theorem creditOk_admitted {m : Bool} {ms : List Entry} {hs : List Handle} (h : admitEntries m ms s = .admitted hs t)
    (k : creditOk s = true) : creditOk t = true := creditOk_base (base_admitted h) (spent_admitted h) k

/-! ### The claim (R55) -/

/-- What a call's end leaves, its notices leaving `base` and the credit alone (R118, R119). -/
theorem creditOk_endCall {tell : State → State} (hb : ∀ u, base (tell u) = base u) (hr : ∀ u, (tell u).credit = u.credit) :
    creditOk (endCall x tell s) = true := by
  have hd : creditOk (deactivate x .call (releaseClaim s)) = true := creditOk_deactivate (creditOk_unclaimed rfl rfl)
  have hrem : creditOk (removeCall x (releaseClaim s)) = true := creditOk_same rfl rfl rfl hd
  have ht : creditOk (updCtx x afterCall (tell (removeCall x (releaseClaim s)))) = true :=
    creditOk_same (s := tell (removeCall x (releaseClaim s))) rfl rfl rfl (creditOk_untouched (hb _) (hr _) hrem)
  unfold endCall; dsimp only; split
  · exact creditOk_activate ht
  · exact ht

/-- A claim taken gives credit_max (R55, R112). -/
theorem creditOk_takeClaim (x : Subscription) (s : State) : creditOk (takeClaim x s) = true := by simp [creditOk, takeClaim]

theorem creditOk_startCall (x : Subscription) (p : CallPattern) (n : Nat) (s : State) : creditOk (startCall x p n s) = true := by
  have hu {f : Context → Context} : creditOk (updCtx x f (lowerExch x.other (takeClaim x s))) = true :=
    creditOk_same rfl rfl rfl (creditOk_takeClaim x s)
  exact creditOk_activate (creditOk_same rfl rfl rfl (creditOk_deactivate hu))

theorem creditOk_tearClaim (k : creditOk s = true) : creditOk (tearClaim x s) = true := by
  unfold tearClaim; split
  · exact creditOk_unclaimed rfl rfl
  · exact k

theorem creditOk_tearPlan (k : creditOk s = true) : creditOk (tearPlan x s) = true := by
  have hp : PlanOnly s (tearPlan x s) := planOnly_tearPlan x s
  rw [PlanOnly] at hp
  rw [hp]
  exact creditOk_same (s := s) rfl rfl rfl k

theorem creditOk_teardown {c : CtxState} (k : creditOk s = true) : creditOk (teardown x c s) = true := by
  have ht : creditOk (tearClaim x (tearPlan x s)) = true := creditOk_tearClaim (creditOk_tearPlan k)
  unfold teardown; dsimp only; split <;> exact creditOk_same rfl rfl rfl ht

theorem creditOk_shutDown (k : creditOk s = true) : creditOk (shutDown x s) = true := by
  unfold shutDown; split
  · exact k
  · exact creditOk_teardown k

/-! ### Frame starts and the handover -/

theorem creditOk_switchReselect {r : ReselectRecord} {b : Timebase} (k : creditOk s = true) :
    creditOk (switchReselect x r b s) = true := by
  have h3 {c : Cell} {l : Option Int} : creditOk (setServing x c l (reanchor x r.fnNew (ltAddInt b.ltRef r.offset)
      (flushSub x s))) = true := creditOk_same rfl rfl rfl (creditOk_flushSub k)
  have hstaged {u : State} (h : creditOk u = true) : creditOk (applyStagedPaging x (voidPrepared x u)) = true := by
    refine creditOk_untouched (s := u) (by simp) ?_ h
    rw [credit_applyStagedPaging]
    unfold voidPrepared; split <;> rfl
  unfold switchReselect; dsimp only
  refine creditOk_notify (creditOk_same rfl rfl rfl (creditOk_rematerialise (creditOk_rematerialise (hstaged ?_))))
  split
  · exact creditOk_swapRing h3
  · exact h3

theorem creditOk_setAside {r : HandoverRecord} (k : creditOk s = true) : creditOk (setAside x r s).2 = true :=
  creditOk_keep (ctl_setAside x r s) (.of_eq (credit_setAside x r s)) k

theorem creditOk_switchHandover {r : HandoverRecord} {b : Timebase} (k : creditOk s = true) :
    creditOk (switchHandover x r b s) = true := by
  have h2 {f : Option (Subscription × Timebase)} :
      creditOk (deactivate x .meas (deactivate x .page (setFallback f s))) = true :=
    creditOk_deactivate (creditOk_deactivate (creditOk_same rfl rfl rfl k))
  have h4 {f : Option (Subscription × Timebase)} : creditOk (setAside x r (reanchor x r.fnNew (ltAddInt b.ltRef r.offset)
      (flushSub x (deactivate x .meas (deactivate x .page (setFallback f s)))))).2 = true :=
    creditOk_setAside (creditOk_same rfl rfl rfl (creditOk_flushSub h2))
  unfold switchHandover; dsimp only
  refine creditOk_notify ?_
  split
  · exact creditOk_rematerialise (creditOk_same rfl rfl rfl h4)
  · exact creditOk_same rfl rfl rfl h4

theorem creditOk_takeFrameStart (k : creditOk s = true) : creditOk (takeFrameStart x s) = true := by
  unfold takeFrameStart
  split
  · rename_i b _
    have ht : creditOk (updRecord x (some (advance b)) s) = true := creditOk_same rfl rfl rfl k
    dsimp only
    split
    · exact creditOk_signalFrame _ _ (creditOk_switchReselect ht)
    · refine creditOk_signalFrame _ _ ?_
      have hb := creditOk_base (base_bringSlew x b.slew _) (spent_bringSlew x b.slew _) ht
      unfold switchHere; split
      · exact creditOk_switchHandover hb
      · exact hb
  · exact k

theorem creditOk_cancelHandover {r : HandoverRecord} (k : creditOk s = true) : creditOk (cancelHandover x r s) = true :=
  creditOk_same rfl rfl rfl (creditOk_dropSync (x := x) (r := r) k)

theorem creditOk_confirmHandover {r : HandoverRecord} (k : creditOk s = true) : creditOk (confirmHandover x r s) = true := by
  have h2 {h : Option (Neighbour × Nat)} : creditOk (returnHeld x h (setResume x none s)) = true :=
    creditOk_returnHeld (creditOk_same rfl rfl rfl k)
  unfold confirmHandover; dsimp only
  refine creditOk_notify (creditOk_resumePatterns ?_)
  split
  · exact creditOk_same rfl rfl rfl (creditOk_swapRing h2)
  · exact creditOk_same rfl rfl rfl h2

theorem creditOk_revertHandover {r : HandoverRecord} {why : FailReason} (k : creditOk s = true) :
    creditOk (revertHandover x r why s) = true := by
  have h3 : creditOk (flushSub x (dropSync x r (setResume x none s))) = true :=
    creditOk_flushSub (creditOk_dropSync (creditOk_same rfl rfl rfl k))
  have hend {u : State} (h : creditOk u = true) : creditOk (resumePatterns x (returnContext x (setHandover x none
      (notify x (.handoverFailed why) (rematerialise x .call none (returnHeld x r.held u)))))) = true := by
    have h7 := creditOk_notify (x := x) (b := .handoverFailed why)
      (creditOk_rematerialise (x := x) (p := .call) (f := none) (creditOk_returnHeld (x := x) (h := r.held) h))
    exact creditOk_resumePatterns (creditOk_same rfl rfl rfl h7)
  unfold revertHandover; dsimp only
  refine hend ?_
  split
  all_goals split
  all_goals exact creditOk_same rfl rfl rfl h3

/-! ### Slumber, battery and policy -/

theorem creditOk_thriftTest (k : creditOk s = true) : creditOk (thriftTest s) = true := by
  have ht {w : Bool} : creditOk (updCsc (fun c => { c with thrift := w }) s) = true := creditOk_same rfl rfl rfl k
  unfold thriftTest; dsimp only; split
  · exact creditOk_untouched (base_thriftBegins _) (credit_thriftBegins _) ht
  · exact ht

theorem creditOk_tellBatteries (l : List (Battery × Battery)) (k : creditOk s = true) :
    creditOk (tellBatteries l s) = true := by
  induction l generalizing s with
  | nil => exact k
  | cons c l ih => exact ih (creditOk_untouched (base_notifyBare _ _ s) rfl k)

theorem creditOk_heldChanges (k : creditOk s = true) : creditOk (heldChanges s) = true :=
  creditOk_thriftTest (creditOk_same rfl rfl rfl (creditOk_tellBatteries s.csc.changes k))

theorem creditOk_wakeEvent {c : WakeCause} (k : creditOk s = true) : creditOk (wakeEvent c s) = true := by
  unfold wakeEvent; split
  · exact creditOk_same (s := s) rfl rfl rfl k
  · exact k

/-- A credit above the new credit_max is lowered to it (R55, R175). -/
theorem creditOk_setPolicy (b : PolicyBody) (k : creditOk s = true) : creditOk (setPolicy b s) = true := by
  refine creditOk_thriftTest (creditOk_untouched (base_guardTest _) (credit_guardTest _) ?_)
  unfold creditOk at k ⊢
  dsimp only
  split <;> rename_i hc <;> rw [hc] at k
  · simp_all
  · exact decide_eq_true (Nat.min_le_right _ _)

theorem creditOk_expireExchange {d : LT} (k : creditOk s = true) : creditOk (expireExchange x d s) = true := by
  have he : creditOk (notifyAt x d (.exchangeExpired (s.cxm.get x).purpose) (endExchEntries x s)) = true :=
    creditOk_untouched (by simp) (by simp) k
  exact creditOk_same rfl rfl rfl he

theorem creditOk_lostEnded {p : Pat} {st : LT} (k : creditOk s = true) : creditOk (lostEnded x p st s) = true :=
  creditOk_untouched (base_lostEnded x p st s) (credit_lostEnded x p st s) k

/-- R3: what a jump of LT has passed is taken. -/
theorem creditOk_takePassed (p : Passed) (k : creditOk s = true) : creditOk (takePassed p s) = true := by
  cases p with
  | frame x => exact creditOk_takeFrameStart k
  | fallback =>
    simp only [takePassed, takeFallbackStart]
    split
    · exact creditOk_same (s := s) rfl rfl rfl k
    · exact k
  | exchange x =>
    simp only [takePassed]
    split
    · exact creditOk_expireExchange k
    · exact k
  | lease x =>
    simp only [takePassed]
    split
    · exact creditOk_endCall (fun u => by simp [tellLeaseLost]) (fun u => by simp [tellLeaseLost])
    · exact k
  | confirm x =>
    simp only [takePassed]
    split
    · exact creditOk_revertHandover k
    · exact k
  | lost x q =>
    simp only [takePassed]
    split
    · exact creditOk_lostEnded k
    · exact k
  | probe => exact creditOk_same (s := s) rfl rfl rfl k
  | cal => exact creditOk_same (s := s) rfl rfl rfl k
  | wake => exact creditOk_untouched (base_wakeUp s) (credit_wakeUp s) k

theorem creditOk_chooseOne {α : Type} {l : List α} {a : α} (h : chooseOne l s = some (a, t)) (k : creditOk s = true) :
    creditOk t = true := by
  unfold chooseOne at h
  split at h
  · cases h
  · cases h; exact k
  · obtain ⟨v, _, he⟩ := Option.map_eq_some_iff.1 h
    cases he
    exact creditOk_same (s := s) rfl rfl rfl k

theorem creditOk_takeAllPassed (l : List Passed) (n : Nat) (k : creditOk s = true) :
    creditOk (takeAllPassed l n s) = true := by
  induction n generalizing s with
  | zero => exact k
  | succ n ih =>
    rw [takeAllPassed]
    split
    · rename_i p t hc
      exact ih (creditOk_takePassed p (creditOk_chooseOne hc k))
    · exact k

theorem creditOk_endSlumber (r : SlumberRecord) (k : creditOk s = true) : creditOk (endSlumber r s) = true := by
  have hr : creditOk (restoreLt r s) = true := creditOk_same (s := s) rfl rfl rfl k
  unfold endSlumber; dsimp only
  refine creditOk_heldChanges (creditOk_same rfl rfl rfl (s := ite _ _ _) ?_)
  split
  · exact creditOk_base (base_materialiseAll _) (spent_materialiseAll _)
      (creditOk_takeAllPassed _ _ (creditOk_takeAllPassed _ _ hr))
  · exact hr

/-! ### Requests: what the reply leaves -/

theorem creditOk_campReply {b : CampBody} (k : creditOk s = true) : creditOk ((campReply x b s).after s) = true := by
  unfold campReply; (repeat' split) <;> try exact k
  exact creditOk_activate (creditOk_activate (creditOk_same (s := s) rfl rfl rfl k))

theorem creditOk_activateReply (k : creditOk s = true) : creditOk ((activateReply x s).after s) = true := by
  unfold activateReply; split
  · exact creditOk_same (s := s) rfl rfl rfl k
  · exact k

theorem creditOk_reselectReply {b : ReselectBody} (k : creditOk s = true) :
    creditOk ((reselectReply x b s).after s) = true := by
  unfold reselectReply; (repeat' split) <;> exact creditOk_same (s := s) rfl rfl rfl k

theorem creditOk_loseServiceReply (k : creditOk s = true) : creditOk ((loseServiceReply x s).after s) = true := by
  unfold loseServiceReply; split
  · exact k
  · rw [Reply.after_accept]; exact creditOk_teardown k

theorem creditOk_adjustTimingReply {d : Int} (k : creditOk s = true) :
    creditOk ((adjustTimingReply x d s).after s) = true := by
  unfold adjustTimingReply; (repeat' split) <;> exact creditOk_same (s := s) rfl rfl rfl k

theorem creditOk_trimReply {w : Nat} (k : creditOk s = true) : creditOk ((trimReply x w s).after s) = true := by
  unfold trimReply; (repeat' split) <;> exact creditOk_same (s := s) rfl rfl rfl k

theorem creditOk_stagePagingReply {c : PagingConfig} (k : creditOk s = true) :
    creditOk ((stagePagingReply x c s).after s) = true := by
  have hp {f : Pgu → Pgu} : creditOk (updPgu x f s) = true := creditOk_same (s := s) rfl rfl rfl k
  unfold stagePagingReply; (repeat' split) <;> try exact k
  unfold stagePaging Reply.after; dsimp only; split
  · exact creditOk_activate hp
  · exact hp

theorem creditOk_pageResultReply {r : Option PageOutcome} (k : creditOk s = true) :
    creditOk ((pageResultReply x r s).after s) = true := by
  unfold pageResultReply; (repeat' split) <;> try exact k
  rw [Reply.after_accept]
  unfold tellIncoming; split <;> exact creditOk_untouched (s := s) (by simp) (by simp) k

theorem creditOk_reserveReply {b : ReserveBody} (k : creditOk s = true) : creditOk ((reserveReply x b s).after s) = true := by
  unfold reserveReply; (repeat' split) <;> try exact k
  unfold offerOneShot; split <;> try exact k
  rename_i ha
  exact creditOk_admitted ha k

theorem creditOk_cancelReply {a g : BitVec 8} (k : creditOk s = true) : creditOk ((cancelReply x a g s).after s) = true := by
  unfold cancelReply; (repeat' split) <;> try exact k
  rw [Reply.after_accept]
  unfold cancelEntry; split <;> exact creditOk_untouched (s := s) (by simp) (by simp) k

theorem creditOk_enterExchangeReply {p : Option Purpose} {n : Nat} (k : creditOk s = true) :
    creditOk ((enterExchangeReply x p n s).after s) = true := by
  unfold enterExchangeReply; (repeat' split) <;> exact creditOk_same (s := s) rfl rfl rfl k

theorem creditOk_renewExchangeReply {p : Coded Purpose} {n : Nat} (k : creditOk s = true) :
    creditOk ((renewExchangeReply x p n s).after s) = true := by
  unfold renewExchangeReply; (repeat' split) <;> exact creditOk_same (s := s) rfl rfl rfl k

theorem creditOk_leaveExchangeReply (k : creditOk s = true) : creditOk ((leaveExchangeReply x s).after s) = true := by
  have he : creditOk (endExchEntries x s) = true := creditOk_untouched (by simp) (by simp) k
  unfold leaveExchangeReply; split
  · exact creditOk_same rfl rfl rfl he
  · exact k

theorem creditOk_startCallReply {p : CallPattern} {n : Nat} (k : creditOk s = true) :
    creditOk ((startCallReply x p n s).after s) = true := by
  unfold startCallReply; (repeat' split) <;> try exact k
  exact creditOk_startCall x p n s

theorem creditOk_modifyCallReply {p : CallPattern} (k : creditOk s = true) :
    creditOk ((modifyCallReply x p s).after s) = true := by
  unfold modifyCallReply; (repeat' split) <;> exact creditOk_same (s := s) rfl rfl rfl k

theorem creditOk_renewHoldReply {n : Nat} (k : creditOk s = true) : creditOk ((renewHoldReply x n s).after s) = true := by
  unfold renewHoldReply; (repeat' split) <;> exact creditOk_same (s := s) rfl rfl rfl k

theorem creditOk_endCallReply (k : creditOk s = true) : creditOk ((endCallReply x s).after s) = true := by
  unfold endCallReply; split
  · exact creditOk_endCall (fun u => by simp) (fun u => by simp)
  · exact k

theorem creditOk_setMeasReply {b : MeasBody} (k : creditOk s = true) : creditOk ((setMeasReply x b s).after s) = true := by
  have hp {u : State} (h : creditOk u = true) : creditOk (placeMeas x u) = true := by
    unfold placeMeas; (repeat' split)
    · exact creditOk_rematerialise h
    · exact creditOk_activate h
    · exact h
  have hm {f : Msu → Msu} : creditOk (updMsu x f s) = true := creditOk_same (s := s) rfl rfl rfl k
  unfold setMeasReply; dsimp only; (repeat' split) <;> try exact k
  exact creditOk_bankSwitch (creditOk_same rfl rfl rfl (hp hm))

theorem creditOk_setNeighboursReply {l : List NeighbourSpec} (k : creditOk s = true) :
    creditOk ((setNeighboursReply x l s).after s) = true := by
  unfold setNeighboursReply; (repeat' split) <;> exact creditOk_same (s := s) rfl rfl rfl k

theorem creditOk_addNeighbourReply {r : NeighbourSpec} (k : creditOk s = true) :
    creditOk ((addNeighbourReply x r s).after s) = true := by
  unfold addNeighbourReply; dsimp only; (repeat' split) <;> exact creditOk_same (s := s) rfl rfl rfl k

theorem creditOk_removeNeighbourReply {n c : Nat} (k : creditOk s = true) :
    creditOk ((removeNeighbourReply x n c s).after s) = true := by
  unfold removeNeighbourReply; (repeat' split) <;> exact creditOk_same (s := s) rfl rfl rfl k

theorem creditOk_setClassReply {n c m : Nat} (k : creditOk s = true) :
    creditOk ((setClassReply x n c m s).after s) = true := by
  unfold setClassReply; (repeat' split) <;> exact creditOk_same (s := s) rfl rfl rfl k

theorem creditOk_releaseBankReply (k : creditOk s = true) : creditOk ((releaseBankReply x s).after s) = true := by
  unfold releaseBankReply; (repeat' split) <;> try exact k
  exact creditOk_bankSwitch (creditOk_same (s := s) rfl rfl rfl k)

theorem creditOk_ackCandidateReply {n : Nat} {c : Option Nat} (k : creditOk s = true) :
    creditOk ((ackCandidateReply x n c s).after s) = true := by
  unfold ackCandidateReply; (repeat' split) <;> exact creditOk_same (s := s) rfl rfl rfl k

theorem creditOk_armReply {b : ArmBody} (k : creditOk s = true) : creditOk ((armReply x b s).after s) = true := by
  unfold armReply; dsimp only; (repeat' split) <;> try exact k
  unfold offerSync; dsimp only; split
  · rename_i ha
    have hu := creditOk_admitted ha k
    exact creditOk_same rfl rfl rfl hu
  · exact k

theorem creditOk_handoverCancelReply (k : creditOk s = true) : creditOk ((handoverCancelReply x s).after s) = true := by
  unfold handoverCancelReply; split
  · exact creditOk_cancelHandover k
  · exact k

theorem creditOk_handoverConfirmReply (k : creditOk s = true) : creditOk ((handoverConfirmReply x s).after s) = true := by
  unfold handoverConfirmReply; split
  · exact creditOk_confirmHandover k
  · exact k

theorem creditOk_handoverFailReply (k : creditOk s = true) : creditOk ((handoverFailReply x s).after s) = true := by
  unfold handoverFailReply; split
  · exact creditOk_revertHandover k
  · exact k

theorem creditOk_setPolicyReply {b : PolicyBody} (k : creditOk s = true) : creditOk ((setPolicyReply b s).after s) = true := by
  unfold setPolicyReply; split
  · exact creditOk_setPolicy b k
  · exact k

theorem creditOk_serve {r : Request} {f : State → Reply} (k : creditOk s = true) (hf : creditOk ((f s).after s) = true)
    (h : serve q r f s = .next t) : creditOk t = true :=
  serve_keeps (P := fun u => creditOk u = true) (fun _ _ hu => creditOk_same rfl rfl rfl hu) (fun _ => creditOk_settle) k hf h

/-! ### Events -/

theorem creditOk_happened {u : State} (h : (.next (settle u) : Answered) = .next t) (k : creditOk u = true) :
    creditOk t = true := by
  cases h; exact creditOk_settle k

/-- An event whose effects keep what the contexts' laws read and only spend credit. -/
theorem creditOk_happened_keep {u : State} (h : (.next (settle u) : Answered) = .next t) (k : creditOk s = true)
    (hc : (base u).ctl = (base s).ctl) (hr : CreditSpent s u) : creditOk t = true := creditOk_happened h (creditOk_keep hc hr k)

/-- The same for effects that leave `base` alone. -/
theorem creditOk_happened_base {u : State} (h : (.next (settle u) : Answered) = .next t) (k : creditOk s = true)
    (hb : base u = base s) (hr : CreditSpent s u) : creditOk t = true := creditOk_happened h (creditOk_base hb hr k)

theorem creditOk_rclAck {a : AckKind} (k : creditOk s = true) (h : execRclAck a s = .next t) : creditOk t = true := by
  unfold execRclAck at h
  (repeat' split at h)
  · exact creditOk_happened_keep h k ((ctl_commandAcked _ _).trans rfl)
      (.after_eq (credit_acked s) (spent_commandAcked _ _))
  all_goals cases h; exact k

theorem creditOk_readReportAck {l m : Int} (k : creditOk s = true) (h : execReadReportAck l m s = .next t) :
    creditOk t = true := by
  unfold execReadReportAck at h
  split at h
  · exact creditOk_happened_keep h k ((ctl_reportRead _ _ _ _).trans rfl)
      (.after_eq (credit_acked s) (spent_reportRead _ _ _ _))
  · cases h; exact k

theorem creditOk_trimAck (k : creditOk s = true) (h : execTrimAck s = .next t) : creditOk t = true := by
  unfold execTrimAck at h
  split at h
  · dsimp only at h
    split at h <;> exact creditOk_happened h (creditOk_same (s := s) rfl rfl rfl k)
  · cases h; exact k

theorem creditOk_linkFault (k : creditOk s = true) (h : execLinkFault s = .next t) : creditOk t = true := by
  unfold execLinkFault at h
  split at h
  · rename_i c _
    have hf : creditOk (treatFault c (faulted s)) = true :=
      creditOk_keep ((ctl_treatFault _ _).trans rfl) (.after_eq (credit_faulted s) (spent_treatFault _ _)) k
    dsimp only at h
    split at h
    · exact creditOk_happened_keep h hf (ctl_radioDown _ _) (spent_radioDown _ _)
    · exact creditOk_happened h hf
  · cases h; exact k

theorem creditOk_probeTime (k : creditOk s = true) (h : execProbeTime s = .next t) : creditOk t = true := by
  unfold execProbeTime at h
  split at h
  · exact creditOk_happened h (creditOk_same (s := s) rfl rfl rfl k)
  · cases h; exact k

theorem creditOk_probeAck (k : creditOk s = true) (h : execProbeAck s = .next t) : creditOk t = true := by
  unfold execProbeAck at h
  split at h
  · have hp : creditOk (choosePower (notifyAll (.radioUp (acked s).rsq.probes) (linkUp (acked s)))) = true :=
      creditOk_untouched (s := s) (by simp) ((credit_choosePower _).trans (credit_notifyAll _ _)) k
    exact creditOk_happened h (creditOk_same rfl rfl rfl hp)
  · cases h; exact k

theorem creditOk_prepareEntry (k : creditOk s = true) (h : execPrepareEntry s = .next t) : creditOk t = true := by
  unfold execPrepareEntry at h
  split at h
  · exact creditOk_happened_base h k (by simp) (.after_eq (credit_prepare _ s) (spent_startReached _ _))
  · cases h; exact k

theorem creditOk_entryStart (k : creditOk s = true) (h : execEntryStart s = .next t) : creditOk t = true := by
  unfold execEntryStart at h
  split at h
  · exact creditOk_happened_base h k (by simp) (.of_eq (by simp))
  · cases h; exact k

theorem creditOk_entryEnd (k : creditOk s = true) (h : execEntryEnd s = .next t) : creditOk t = true := by
  unfold execEntryEnd at h
  split at h
  · exact creditOk_happened_base h k (by simp) (spent_endEntry _ _)
  · cases h; exact k

theorem creditOk_gapWindowTune (k : creditOk s = true) (h : execGapWindowTune s = .next t) : creditOk t = true := by
  unfold execGapWindowTune at h
  split at h
  · exact creditOk_happened_base h k (by simp) (.of_eq (by simp))
  · cases h; exact k

theorem creditOk_gapWindowOn (k : creditOk s = true) (h : execGapWindowOn s = .next t) : creditOk t = true := by
  unfold execGapWindowOn at h
  split at h
  · exact creditOk_happened_base h k (by simp) (.of_eq (by simp))
  · cases h; exact k

theorem creditOk_gapWindowEnd (k : creditOk s = true) (h : execGapWindowEnd s = .next t) : creditOk t = true := by
  unfold execGapWindowEnd at h
  split at h
  · exact creditOk_happened_base h k (by simp) (.of_eq (by simp))
  · cases h; exact k

theorem creditOk_endLost {p : Pat} (k : creditOk s = true) : creditOk (endLost x p s) = true := by
  unfold endLost; split
  · exact creditOk_lostEnded k
  · exact k

theorem creditOk_lostOccurrenceEnd {p : Pat} (k : creditOk s = true) (h : execLostOccurrenceEnd x p s = .next t) :
    creditOk t = true := by
  unfold execLostOccurrenceEnd at h
  split at h
  · refine creditOk_happened h ?_
    exact creditOk_endLost (creditOk_endLost (creditOk_endLost (creditOk_endLost (creditOk_endLost (creditOk_endLost k)))))
  · cases h; exact k

theorem creditOk_exchangeDeadline (k : creditOk s = true) (h : execExchangeDeadline x s = .next t) : creditOk t = true := by
  unfold execExchangeDeadline at h
  split at h
  · exact creditOk_happened h (creditOk_expireExchange k)
  · cases h; exact k

theorem creditOk_leaseDeadline (k : creditOk s = true) (h : execLeaseDeadline x s = .next t) : creditOk t = true := by
  unfold execLeaseDeadline at h
  split at h
  · exact creditOk_happened h (creditOk_endCall (fun u => by simp [tellLeaseLost]) (fun u => by simp [tellLeaseLost]))
  · cases h; exact k

theorem creditOk_confirmDeadline (k : creditOk s = true) (h : execConfirmDeadline x s = .next t) : creditOk t = true := by
  unfold execConfirmDeadline at h
  split at h
  · exact creditOk_happened h (creditOk_revertHandover k)
  · cases h; exact k

theorem creditOk_frameStart (k : creditOk s = true) (h : execFrameStart x s = .next t) : creditOk t = true := by
  unfold execFrameStart at h
  split at h
  · exact creditOk_happened h (creditOk_takeFrameStart k)
  · cases h; exact k

theorem creditOk_fallbackFrameStart (k : creditOk s = true) (h : execFallbackFrameStart s = .next t) :
    creditOk t = true := by
  unfold execFallbackFrameStart at h
  split at h
  · cases h; exact creditOk_takePassed .fallback k
  · cases h; exact k

theorem creditOk_calDue (k : creditOk s = true) (h : execCalDue s = .next t) : creditOk t = true := by
  unfold execCalDue at h
  split at h
  · exact creditOk_happened h (creditOk_same (s := s) rfl rfl rfl k)
  · cases h; exact k

theorem creditOk_wakeTarget (k : creditOk s = true) (h : execWakeTarget s = .next t) : creditOk t = true := by
  unfold execWakeTarget at h
  split at h
  · exact creditOk_happened h (creditOk_takePassed .wake k)
  · cases h; exact k

theorem creditOk_activityNeedReached (k : creditOk s = true) (h : execActivityNeedReached s = .next t) :
    creditOk t = true := by
  unfold execActivityNeedReached at h
  split at h
  · exact creditOk_happened_base h k (base_choosePower s) (.of_eq (credit_choosePower s))
  · cases h; exact k

theorem creditOk_slumberEntry (k : creditOk s = true) (h : execSlumberEntry s = .next t) : creditOk t = true := by
  unfold execSlumberEntry at h
  split at h
  · refine creditOk_happened h ?_
    unfold beginEntry; dsimp only
    split <;> exact creditOk_untouched (s := s) (by simp) (by simp) k
  · cases h; exact k

theorem creditOk_stopEdge (k : creditOk s = true) (h : execStopEdge s = .next t) : creditOk t = true := by
  unfold execStopEdge at h
  (repeat' split at h)
  · cases h
    exact creditOk_same (s := s) rfl rfl rfl k
  · refine creditOk_happened h ?_
    unfold stayAwake; dsimp only
    split <;> exact creditOk_untouched (s := s) (by simp) (by simp) k
  · cases h; exact k

theorem creditOk_enableCycle (k : creditOk s = true) (h : execEnableCycle s = .next t) : creditOk t = true := by
  unfold execEnableCycle at h
  (repeat' split at h) <;> cases h <;> exact creditOk_same (s := s) rfl rfl rfl k

theorem creditOk_earlyWake (k : creditOk s = true) (h : execEarlyWake s = .next t) : creditOk t = true := by
  unfold execEarlyWake at h
  (repeat' split at h) <;> cases h <;> exact creditOk_same (s := s) rfl rfl rfl k

theorem creditOk_slumberEnd (k : creditOk s = true) (h : execSlumberEnd s = .next t) : creditOk t = true := by
  unfold execSlumberEnd at h
  (repeat' split at h)
  · exact creditOk_happened h (creditOk_endSlumber _ k)
  all_goals cases h; exact k

theorem creditOk_calStart (k : creditOk s = true) (h : execCalStart s = .next t) : creditOk t = true := by
  unfold execCalStart at h
  split at h <;> cases h <;> exact creditOk_same (s := s) rfl rfl rfl k

theorem creditOk_calEnd (k : creditOk s = true) (h : execCalEnd s = .next t) : creditOk t = true := by
  unfold execCalEnd at h
  (repeat' split at h)
  · refine creditOk_happened h ?_
    unfold judgeCal; dsimp only; split
    · exact creditOk_same (s := s) rfl rfl rfl k
    · exact creditOk_same (s := s) rfl rfl rfl k
  all_goals cases h; exact k

theorem creditOk_batteryChange {a b : Battery} (k : creditOk s = true) : creditOk (batteryChange a b s) = true := by
  unfold batteryChange; dsimp only; split
  · exact creditOk_settle (creditOk_thriftTest (creditOk_same (s := s) rfl rfl rfl k))
  · exact creditOk_wakeEvent (creditOk_same (s := s) rfl rfl rfl k)

theorem creditOk_batterySample {l c : Bool} (k : creditOk s = true) (h : execBatterySample l c s = .next t) :
    creditOk t = true := by
  have hs : creditOk (updCsc (sampleFilter (liveState l c)) s) = true := creditOk_same (s := s) rfl rfl rfl k
  unfold execBatterySample at h
  dsimp only at h
  (repeat' split at h) <;> cases h
  · exact k
  · exact hs
  · exact creditOk_batteryChange hs

theorem creditOk_transactionStart (k : creditOk s = true) (h : execTransactionStart q s = .next t) : creditOk t = true := by
  unfold execTransactionStart at h
  (repeat' split at h) <;> cases h
  · exact k
  · exact creditOk_same (s := s) rfl rfl rfl k
  · exact creditOk_wakeEvent (creditOk_same (s := s) rfl rfl rfl k)

theorem creditOk_requestFrameComplete {tag len : BitVec 8} {req : Option Request} (k : creditOk s = true)
    (h : execRequestFrameComplete q tag len req s = .next t) : creditOk t = true := by
  unfold execRequestFrameComplete at h
  (repeat' split at h) <;> cases h <;> exact creditOk_same (s := s) rfl rfl rfl k

theorem creditOk_transactionEnd (k : creditOk s = true) (h : execTransactionEnd q s = .next t) : creditOk t = true := by
  unfold execTransactionEnd at h
  split at h <;> cases h <;> exact creditOk_same (s := s) rfl rfl rfl k

theorem creditOk_wakeAsserted {l : Bool} (k : creditOk s = true) (h : execWakeAsserted q l s = .next t) :
    creditOk t = true := by
  have hp : creditOk { s with pins := { s.pins with wake := s.pins.wake.set q l } } = true :=
    creditOk_same (s := s) rfl rfl rfl k
  unfold execWakeAsserted at h
  dsimp only at h
  split at h <;> cases h
  · exact creditOk_wakeEvent hp
  · exact hp

theorem creditOk_resetNAsserted (h : execResetNAsserted s = .next t) : creditOk t = true := by
  cases h; rfl

theorem creditOk_bringUp (k : creditOk s = true) (h : execBringUp s = .next t) : creditOk t = true := by
  unfold execBringUp at h
  split at h <;> cases h <;> exact creditOk_same (s := s) rfl rfl rfl k

theorem creditOk_firstRefTick (k : creditOk s = true) (h : execFirstRefTick s = .next t) : creditOk t = true := by
  unfold execFirstRefTick at h
  split at h
  · have hr : creditOk { s with phase := .running } = true := creditOk_same (s := s) rfl rfl rfl k
    exact creditOk_happened h (creditOk_heldChanges (creditOk_untouched (base_demand _ _) (credit_demand _ _) hr))
  · cases h; exact k

/-! ### The rows and the step -/

/-- Every row keeps the law of the credit. -/
theorem creditOk_exec (i : Instr) (k : creditOk s = true) (h : exec i s = .next t) : creditOk t = true := by
  cases i with
  | activate x => exact creditOk_serve k (creditOk_activateReply k) h
  | deactivate x => exact creditOk_serve k (f := deactivateReply x) (creditOk_shutDown k) h
  | camp x b => exact creditOk_serve k (creditOk_campReply k) h
  | reselect x b => exact creditOk_serve k (creditOk_reselectReply k) h
  | loseService x => exact creditOk_serve k (creditOk_loseServiceReply k) h
  | adjustTiming x d => exact creditOk_serve k (creditOk_adjustTimingReply k) h
  | trim x w => exact creditOk_serve k (creditOk_trimReply k) h
  | readTime q => exact creditOk_serve k ((readTimeReply_after q s).symm ▸ k) h
  | readContext q who => exact creditOk_serve k ((readContextReply_after q who s).symm ▸ k) h
  | stagePaging x c => exact creditOk_serve k (creditOk_stagePagingReply k) h
  | pageResult x r => exact creditOk_serve k (creditOk_pageResultReply k) h
  | reserve x b => exact creditOk_serve k (creditOk_reserveReply k) h
  | cancel x a g => exact creditOk_serve k (creditOk_cancelReply k) h
  | enterExchange x p n => exact creditOk_serve k (creditOk_enterExchangeReply k) h
  | renewExchange x p n => exact creditOk_serve k (creditOk_renewExchangeReply k) h
  | leaveExchange x => exact creditOk_serve k (creditOk_leaveExchangeReply k) h
  | startCall x p l => exact creditOk_serve k (creditOk_startCallReply k) h
  | modifyCall x p => exact creditOk_serve k (creditOk_modifyCallReply k) h
  | renewHold x l => exact creditOk_serve k (creditOk_renewHoldReply k) h
  | endCall x => exact creditOk_serve k (creditOk_endCallReply k) h
  | setMeas x b => exact creditOk_serve k (creditOk_setMeasReply k) h
  | setNeighbours x l => exact creditOk_serve k (creditOk_setNeighboursReply k) h
  | addNeighbour x r => exact creditOk_serve k (creditOk_addNeighbourReply k) h
  | removeNeighbour x a c => exact creditOk_serve k (creditOk_removeNeighbourReply k) h
  | setClass x a c n => exact creditOk_serve k (creditOk_setClassReply k) h
  | readBank x => exact creditOk_serve k ((readBankReply_after x s).symm ▸ k) h
  | releaseBank x => exact creditOk_serve k (creditOk_releaseBankReply k) h
  | ackCandidate x a c => exact creditOk_serve k (creditOk_ackCandidateReply k) h
  | handoverArm x b => exact creditOk_serve k (creditOk_armReply k) h
  | handoverCancel x => exact creditOk_serve k (creditOk_handoverCancelReply k) h
  | handoverConfirm x => exact creditOk_serve k (creditOk_handoverConfirmReply k) h
  | handoverFail x => exact creditOk_serve k (creditOk_handoverFailReply k) h
  | readPlan n => exact creditOk_serve k ((readPlanReply_after n s).symm ▸ k) h
  | readPower => exact creditOk_serve k (f := readPowerReply) k h
  | clearBattery => exact creditOk_serve k (f := clearBatteryReply) (creditOk_same (s := s) rfl rfl rfl k) h
  | startCal => exact creditOk_serve k (f := startCalReply) (creditOk_same (s := s) rfl rfl rfl k) h
  | setPolicy b => exact creditOk_serve k (creditOk_setPolicyReply k) h
  | setVote q => exact creditOk_serve k (f := setVoteReply q) (creditOk_same (s := s) rfl rfl rfl k) h
  | clearVote q => exact creditOk_serve k (f := clearVoteReply q) (creditOk_same (s := s) rfl rfl rfl k) h
  | fetchNotices q => exact creditOk_serve k (f := fetchReply q) (creditOk_same (s := s) rfl rfl rfl k) h
  | portReset x =>
    exact creditOk_serve k (f := portResetReply x) (creditOk_same rfl rfl rfl (creditOk_shutDown (x := x) k)) h
  | appPortReset => exact creditOk_serve k (f := appPortResetReply) (creditOk_same (s := s) rfl rfl rfl k) h
  | transactionStart q => exact creditOk_transactionStart k h
  | requestFrameComplete q tag len r => exact creditOk_requestFrameComplete k h
  | transactionEnd q => exact creditOk_transactionEnd k h
  | wakeAsserted q l => exact creditOk_wakeAsserted k h
  | resetNAsserted => exact creditOk_resetNAsserted h
  | bringUp => exact creditOk_bringUp k h
  | firstRefTick => exact creditOk_firstRefTick k h
  | frameStart x => exact creditOk_frameStart k h
  | fallbackFrameStart => exact creditOk_fallbackFrameStart k h
  | exchangeDeadline x => exact creditOk_exchangeDeadline k h
  | leaseDeadline x => exact creditOk_leaseDeadline k h
  | confirmDeadline x => exact creditOk_confirmDeadline k h
  | prepareEntry => exact creditOk_prepareEntry k h
  | entryStart => exact creditOk_entryStart k h
  | entryEnd => exact creditOk_entryEnd k h
  | gapWindowTune => exact creditOk_gapWindowTune k h
  | gapWindowOn => exact creditOk_gapWindowOn k h
  | gapWindowEnd => exact creditOk_gapWindowEnd k h
  | lostOccurrenceEnd x p => exact creditOk_lostOccurrenceEnd k h
  | probeTime => exact creditOk_probeTime k h
  | calDue => exact creditOk_calDue k h
  | wakeTarget => exact creditOk_wakeTarget k h
  | activityNeedReached => exact creditOk_activityNeedReached k h
  | rclAck a => exact creditOk_rclAck k h
  | readReportAck l m => exact creditOk_readReportAck k h
  | trimAck => exact creditOk_trimAck k h
  | probeAck => exact creditOk_probeAck k h
  | linkFault => exact creditOk_linkFault k h
  | slumberEntry => exact creditOk_slumberEntry k h
  | stopEdge => exact creditOk_stopEdge k h
  | enableCycle => exact creditOk_enableCycle k h
  | earlyWake => exact creditOk_earlyWake k h
  | slumberEnd => exact creditOk_slumberEnd k h
  | calStart => exact creditOk_calStart k h
  | calEnd => exact creditOk_calEnd k h
  | batterySample l c => exact creditOk_batterySample k h

theorem creditOk_idleTick (k : creditOk s = true) : creditOk (idleTick s) = true := by
  unfold idleTick; (repeat' split) <;> exact creditOk_same (s := s) rfl rfl rfl k

theorem creditOk_idleEvent {i : Instr} (h : idleEvent s = some (i, t)) (k : creditOk s = true) : creditOk t = true := by
  unfold idleEvent at h
  split at h
  · obtain ⟨_, _, he⟩ := Option.map_eq_some_iff.1 h
    cases he; exact k
  · exact creditOk_chooseOne h k

end

/-- Settles O8: every row keeps the law (`creditOk_exec`); the credit is raised by a refill frame alone, up to credit_max, and
set with the claim. -/
theorem creditStaysLawful : Obligations.CreditStaysLawful := by
  intro s t k h
  unfold step at h
  split at h
  · rename_i rest _
    exact creditOk_exec _ (creditOk_same (s := s) (t := { s with pending := rest }) rfl rfl rfl k) h
  · split at h
    · rename_i he
      exact creditOk_exec _ (creditOk_idleEvent he k) h
    · cases h; exact creditOk_idleTick k

end Sys2Proof.Machine
end

section
/-! SUPPORT. What follows every event (O5): each part of `settle`, where it does nothing and where it acts. -/

namespace Sys2Proof.Machine

section
variable {s u : State}

/-! ### Next occurrences (R62) -/

theorem firstDue_nil {l : List (Subscription × Pat × LT)} : firstDue l = none ↔ l = [] := by
  cases l with
  | nil => simp [firstDue]
  | cons d ds => cases h : firstDue ds <;> simp [firstDue, h]

theorem materialiseDue_idle (n : Nat) (h : duePatterns s = []) : materialiseDue n s = s := by
  cases n with
  | zero => rfl
  | succ n => rw [materialiseDue, firstDue_nil.2 h]

theorem materialiseDue_succ {x : Subscription} {k : Pat} {st : LT} (n : Nat)
    (h : firstDue (duePatterns s) = some (x, k, st)) : materialiseDue (n + 1) s = materialiseDue n (materialise x k s) := by
  rw [materialiseDue, h]

/-- Once nothing is due, a larger bound adds nothing (log 18). -/
theorem materialiseDue_more {n : Nat} (h : duePatterns (materialiseDue n s) = []) :
    materialiseDue (n + 1) s = materialiseDue n s := by
  induction n generalizing s with
  | zero => exact materialiseDue_idle 1 h
  | succ n ih =>
    cases hd : firstDue (duePatterns s) with
    | none => rw [materialiseDue_idle _ (firstDue_nil.1 hd), materialiseDue_idle _ (firstDue_nil.1 hd)]
    | some d =>
      obtain ⟨x, k, st⟩ := d
      rw [materialiseDue_succ n hd] at h
      rw [materialiseDue_succ (n + 1) hd, materialiseDue_succ n hd, ih h]

theorem materialiseAll_idle (h : duePatterns s = []) : materialiseAll s = s := materialiseDue_idle 64 h

/-- The pattern whose turn is first is materialised, and then the others, as though the event had ended there (R62). -/
theorem materialiseAll_first {x : Subscription} {k : Pat} {st : LT} (h : firstDue (duePatterns s) = some (x, k, st))
    (hd : duePatterns (materialiseAll s) = []) : materialiseAll s = materialiseAll (materialise x k s) := by
  have hs : materialiseAll s = materialiseDue 63 (materialise x k s) := materialiseDue_succ 63 h
  rw [hs] at hd ⊢
  exact (materialiseDue_more hd).symm

theorem duePatterns_of_patterns (h : u.patterns = s.patterns) : duePatterns u = duePatterns s := by
  simp only [duePatterns, dueStart, patternOf, h]

/-! ### Guards (R44) -/

/-- The set guards are in force. -/
def GuardsSet (s : State) : Prop := s.guards = { retune := s.air.gRetune, turn := s.air.gTurn }

theorem allKeep_iff (retune turn : Nat) (l : List Entry) :
    allKeep retune turn l = true ↔ l.Pairwise (fun e f => conflicts retune turn e f = false) := by
  induction l with
  | nil => simp [allKeep]
  | cons e l ih => simp [allKeep, ih]

theorem guardTest_set (h : GuardsSet s) : guardTest s = s := by
  have hr : s.air.gRetune ≤ s.guards.retune := by rw [h]
  have ht : s.air.gTurn ≤ s.guards.turn := by rw [h]
  unfold guardTest
  simp only [hr, ht, true_or, if_true]
  rw [← h]

/-- Raised guards that every pair keeps come into force. -/
theorem guardTest_kept (hr : s.plan.Pairwise (fun e f => conflicts s.air.gRetune s.guards.turn e f = false))
    (ht : s.plan.Pairwise (fun e f => conflicts s.air.gRetune s.air.gTurn e f = false)) :
    guardTest s = { s with guards := { retune := s.air.gRetune, turn := s.air.gTurn } } := by
  unfold guardTest
  simp only [(allKeep_iff _ _ _).2 hr, (allKeep_iff _ _ _).2 ht, or_true, if_true]

theorem guardsSet_demand (c : Cmd) : GuardsSet (demand c s) ↔ GuardsSet s := by
  unfold demand; split <;> exact Iff.rfl

/-! ### The choice of ACTIVE or DOZE (R165) -/

/-- R165: an entry PREPARING or EXECUTING, or the activity need within 26,000 ticks. -/
theorem wantsActive_iff (s : State) : wantsActive s = true ↔ (∃ e ∈ s.plan, e.state ≠ .admitted) ∨
    ∃ n, activityNeed s = some n ∧ ltReached s.tbu.lt (n - BitVec.ofNat 48 26000) = true := by
  unfold wantsActive sequencing
  rw [Bool.or_eq_true]
  refine or_congr (by simp) ?_
  cases activityNeed s with
  | none => simp [reachedBy]
  | some n => simp [reachedBy, now, ltSub, Config.activeLead]

theorem choosePower_steady (h : ltRuns s = true → (wantsActive s = true ↔ s.power.state = .active)) :
    choosePower s = s := by
  unfold choosePower
  split
  · rename_i hl
    have hw := h hl
    split
    · rename_i ha
      rw [if_neg]
      rw [hw.1 ha]; exact nofun
    · rename_i ha
      rw [if_neg (fun hs => ha (hw.2 hs))]
  · rfl

theorem refreshWake_none (h : s.power.wakeTarget = none) : refreshWake s = s := by
  unfold refreshWake
  simp [h]

theorem prepareLoop_idle (n : Nat) (h : toPrepare s = none) : prepareLoop n s = s := by
  cases n with
  | zero => rfl
  | succ n => rw [prepareLoop, h]

/-- A change of power that keeps LT running, and a command that falls due, bring no entry to its preparation. -/
theorem toPrepare_powered (c : Cmd) (f : Power → Power) (hr : ltRuns (updPower f s) = ltRuns s) :
    toPrepare (demand c (updPower f s)) = toPrepare s := by
  unfold demand; split <;> (unfold toPrepare; rw [← hr]; rfl)

theorem wantsActive_powered (c : Cmd) (f : Power → Power) : wantsActive (demand c (updPower f s)) = wantsActive s := by
  unfold demand; split <;> rfl

@[simp] theorem power_demand (c : Cmd) (s : State) : (demand c s).power = s.power := by
  unfold demand; split <;> rfl

/-! ### Settled -/

/-- What follows an event where no pattern is due and the set guards are in force. -/
theorem settle_steady (hd : duePatterns s = []) (hg : GuardsSet s) :
    settle s = dispatch (refreshWake (choosePower (guardTest (prepareLoop 48 (choosePower s))))) := by
  rw [settle, materialiseAll_idle hd, guardTest_set hg]

/-- With no entry to be prepared the choice of power is followed by the wake target and the sending alone. -/
theorem settle_chosen (hd : duePatterns s = []) (hg : GuardsSet s) (hu : choosePower s = u) (hgu : GuardsSet u)
    (hp : toPrepare u = none) (hc : choosePower u = u) : settle s = dispatch (refreshWake u) := by
  rw [settle_steady hd hg, hu, prepareLoop_idle 48 hp, guardTest_set hgu, hc]

theorem dispatch_idle (hw : s.rsq.waiting = []) (hr : s.rsq.recoveryOwed = false) (ht : s.tbu.delivered = true) :
    dispatch s = s := by
  have htrim : trimServed s = false := by simp [trimServed, ht]
  unfold dispatch
  split
  · rw [hw, List.length_nil, dispatchLoop, hr]
    simp [hw, pickCmd, htrim]
  · rfl

/-- DOZE becomes ACTIVE with POWER_UP, ending a slumber entry and the wake target (R71, R165, R167, R168). -/
theorem settle_activates (hd : duePatterns s = []) (hg : GuardsSet s) (hr : ltRuns s = true) (hp : toPrepare s = none)
    (ha : wantsActive s = true) (hs : s.power.state = .doze) : settle s = dispatch (demand (.powerUp false false)
      (updPower (fun p => { p with state := .active, entry := none, wakeTarget := none }) s)) := by
  have hrun : ltRuns (updPower (fun p => { p with state := .active, entry := none, wakeTarget := none }) s) = ltRuns s := by
    simp [ltRuns, hs]
  have hu : choosePower s = demand (.powerUp false false)
      (updPower (fun p => { p with state := .active, entry := none, wakeTarget := none }) s) := by
    unfold choosePower
    rw [if_pos hr, if_pos ha, if_pos hs]
  rw [settle_chosen hd hg hu ((guardsSet_demand _).2 hg) ((toPrepare_powered _ _ hrun).trans hp)
    (choosePower_steady fun _ => by simp [wantsActive_powered, ha]), refreshWake_none (by simp)]

/-- ACTIVE becomes DOZE with STANDBY (R71, R165). -/
theorem settle_dozes (hd : duePatterns s = []) (hg : GuardsSet s) (hr : ltRuns s = true) (hp : toPrepare s = none)
    (ha : wantsActive s = false) (hs : s.power.state = .active) (hw : s.power.wakeTarget = none) :
    settle s = dispatch (demand .standby (updPower (fun p => { p with state := .doze }) s)) := by
  have hrun : ltRuns (updPower (fun p => { p with state := .doze }) s) = ltRuns s := by
    simp [ltRuns, hs]
  have hu : choosePower s = demand .standby (updPower (fun p => { p with state := .doze }) s) := by
    unfold choosePower
    rw [if_pos hr, ha, if_neg Bool.false_ne_true, if_pos hs]
  rw [settle_chosen hd hg hu ((guardsSet_demand _).2 hg) ((toPrepare_powered _ _ hrun).trans hp)
    (choosePower_steady fun _ => by simp [wantsActive_powered, ha]), refreshWake_none (by simp [hw])]

/-- A wake target held with the record DOWN follows the slumber need (R167). -/
theorem refreshWake_held {n : LT} (hr : ltRuns s = true) (hw : s.power.wakeTarget.isSome = true)
    (hd : s.rsq.record = .down) (hn : slumberNeed s = some n) : refreshWake s =
      if ltReached s.tbu.lt n = true then demand (.powerUp false true) (updPower (fun p => { p with wakeTarget := none }) s)
      else updPower (fun p => { p with wakeTarget := some n }) s := by
  unfold refreshWake
  rw [hr, hw, hd, hn]
  simp only [wakeUp, hd, now, if_true]
  rfl

/-! ### A preparation (R73) -/

/-- The plan once the named entry is PREPARING. -/
def preparedPlan (h : Handle) (l : List Entry) : List Entry :=
  l.map (fun f => if f.handle = h then { f with state := .preparing } else f)

theorem modifyEntry_preparing (h : Handle) (s : State) :
    modifyEntry h (fun f => { f with state := .preparing }) s = { s with plan := preparedPlan h s.plan } := by
  simp [modifyEntry, preparedPlan]

variable {e : Entry}

/-- In a plan with no other PREPARING entry the prepared entry is the one that has just become so. -/
theorem preparedEntry_prepared (hn : ∀ f ∈ s.plan, f.state ≠ .preparing) (he : e ∈ s.plan)
    (huniq : ∀ f ∈ s.plan, f.handle = e.handle → f = e) (hu : u.plan = preparedPlan e.handle s.plan) :
    preparedEntry u = some { e with state := .preparing } := by
  have hin : ({ e with state := .preparing } : Entry) ∈ u.plan := by
    rw [hu]
    exact List.mem_map.2 ⟨e, he, if_pos rfl⟩
  obtain ⟨p, hp⟩ : ∃ p, preparedEntry u = some p :=
    Option.isSome_iff_exists.1 (List.find?_isSome.2 ⟨_, hin, by simp⟩)
  have hstate : p.state = .preparing := by simpa using List.find?_some hp
  have hmem : p ∈ u.plan := List.mem_of_find?_eq_some hp
  rw [hu] at hmem
  obtain ⟨f, hf, rfl⟩ := List.mem_map.1 hmem
  split at hstate
  · rename_i hh
    rw [hp, if_pos hh, huniq f hf hh]
  · exact absurd hstate (hn f hf)

theorem sequencing_of_prepared (hp : preparedEntry u = some { e with state := .preparing }) : sequencing u = true :=
  List.any_eq_true.2 ⟨_, List.mem_of_find?_eq_some hp, by simp⟩

/-- What a preparation that is not aborted leaves: the entry PREPARING, its TUNE due where it is no gap (R73). -/
theorem prepare_settled {v : LT} (hl : s.rsq.link = .up) (hr : s.rsq.record = .ready) (hv : s.rsq.settledAt = some v)
    (hs : ltReached e.start v = true) : prepare e s =
      if e.kind = .measureGap then { s with plan := preparedPlan e.handle s.plan }
      else demand (.tune (.entry e.handle) e.channel e.dir e.index e.txLevel)
        { s with plan := preparedPlan e.handle s.plan } := by
  have hset : settledFor e s = true := by simp [settledFor, hr, hv, reachedBy, hs]
  have hdown : s.rsq.link ≠ .radioDown := by rw [hl]; exact nofun
  rw [prepare, if_neg hdown, if_pos hset, modifyEntry_preparing]

theorem toPrepare_some (hr : ltRuns s = true) (hn : ∀ f ∈ s.plan, f.state ≠ .preparing) (hb : gapBlocks s = false)
    (hf : s.plan.find? (fun f => f.state == .admitted) = some e)
    (ht : ltReached s.tbu.lt (e.start - BitVec.ofNat 48 6500) = true) : toPrepare s = some e := by
  have hp : preparedEntry s = none := List.find?_eq_none.2 fun f hf => by simpa using hn f hf
  have ht' : ltReached (now s) (ltSub e.start Config.prepareLead) = true := ht
  unfold toPrepare firstAdmitted
  rw [hr, hp, hb, hf]
  simp [Option.filter, ht']

/-- While an entry is PREPARING no other is prepared. -/
theorem toPrepare_while_prepared {p : Entry} (h : preparedEntry s = some p) : toPrepare s = none := by
  simp [toPrepare, h]

/-- A local start that is not reached is not taken at the preparation. -/
theorem startReached_waits {p : Entry} {h : Handle} (hp : preparedEntry s = some p) (ht : ltReached (now s) p.start = false) :
    startReached h s = s := by
  simp [startReached, hp, Option.filter, ht]

/-- R73: an entry to be prepared becomes PREPARING, with its TUNE due. -/
theorem settle_prepares {v : LT} (hd : duePatterns s = []) (hg : GuardsSet s) (hr : ltRuns s = true)
    (ha : wantsActive s = true) (hs : s.power.state = .active) (hw : s.power.wakeTarget = none)
    (hn : ∀ f ∈ s.plan, f.state ≠ .preparing) (hb : gapBlocks s = false)
    (hf : s.plan.find? (fun f => f.state == .admitted) = some e) (huniq : ∀ f ∈ s.plan, f.handle = e.handle → f = e)
    (ht : ltReached s.tbu.lt (e.start - BitVec.ofNat 48 6500) = true) (hst : ltReached s.tbu.lt e.start = false)
    (hl : s.rsq.link = .up) (hrec : s.rsq.record = .ready) (hv : s.rsq.settledAt = some v)
    (hsv : ltReached e.start v = true) : settle s = dispatch (prepare e s) := by
  have hprep : toPrepare s = some e := toPrepare_some hr hn hb hf ht
  have hkept : (prepare e s).plan = preparedPlan e.handle s.plan ∧ (prepare e s).patterns = s.patterns ∧
      (prepare e s).power = s.power ∧ (prepare e s).tbu = s.tbu ∧ GuardsSet (prepare e s) := by
    rw [prepare_settled hl hrec hv hsv]
    split
    · exact ⟨rfl, rfl, rfl, rfl, hg⟩
    · unfold demand; split <;> exact ⟨rfl, rfl, rfl, rfl, hg⟩
  obtain ⟨hplan, hpat, hpow, htbu, hgp⟩ := hkept
  have hpe : preparedEntry (prepare e s) = some { e with state := .preparing } :=
    preparedEntry_prepared hn (List.mem_of_find?_eq_some hf) huniq hplan
  have hstart : startReached e.handle (prepare e s) = prepare e s :=
    startReached_waits hpe (by rw [now, htbu]; exact hst)
  have hmat : materialiseAll (prepare e s) = prepare e s :=
    materialiseAll_idle ((duePatterns_of_patterns hpat).trans hd)
  have hloop : prepareLoop 48 s = prepare e s := by
    rw [prepareLoop, hprep]
    dsimp only
    rw [hstart, hmat, prepareLoop_idle 47 (toPrepare_while_prepared hpe)]
  have hactive : wantsActive (prepare e s) = true := by rw [wantsActive, sequencing_of_prepared hpe, Bool.true_or]
  have hc : choosePower s = s := choosePower_steady fun _ => by simp [ha, hs]
  have hcp : choosePower (prepare e s) = prepare e s := choosePower_steady fun _ => by simp [hactive, hpow, hs]
  rw [settle_steady hd hg, hc, hloop, guardTest_set hgp, hcp, refreshWake_none (by rw [hpow]; exact hw)]

theorem msu_still_eq {m n : Msu} (h : m.still = n.still) : m = { n with pointer := m.pointer, round := m.round } := by
  simp only [Msu.still, Msu.mk.injEq] at h
  obtain ⟨hc, hs, hr, _, _, h0, h1⟩ := h
  rw [← hc, ← hs, ← hr, ← h0, ← h1]

end

/-- Settles O5: each part of `settle` by its own lemma, in the order in which `settle` takes them. -/
theorem settleFrame : Obligations.SettleFrame := by
  refine ⟨fun s => ?_, fun s hd hg hp ha hw hq ho ht => ?_, fun x k st s hf hd => ?_, fun s hd hr ht => ?_,
    fun s hd hg hr => ?_⟩
  · obtain ⟨hc, hf⟩ := spent_settle s
    exact ⟨by simp, by simp, by simp, by simp, by simp, by simp, by simp, by simp, by simp, by simp, by simp, by simp,
      hc, hf, fun x => ⟨_, _, msu_still_eq (still_of_stillAll (settle_msu s) x)⟩⟩
  · have hc : choosePower s = s := choosePower_steady fun _ => ha
    rw [settle_chosen hd hg hc hg hp hc, refreshWake_none hw, dispatch_idle hq ho ht]
  · rw [settle, settle, materialiseAll_first hf hd]
  · have hk := guardTest_kept hr ht
    have hset : GuardsSet (guardTest s) := by rw [hk]; exact rfl
    have hd' : duePatterns (guardTest s) = [] := hd
    rw [← hk, settle, settle, materialiseAll_idle hd, materialiseAll_idle hd', guardTest_set hset]
  · dsimp only
    rw [← wantsActive_iff s]
    refine ⟨fun hp => ⟨fun ha hs => ?_, fun ha hs hw => ?_, fun ha hw => ?_, fun w n ha hw hdn hn => ?_⟩,
      fun e v ha hs hw hn hb hf hu ht hst hl hrec hv hsv => ?_⟩
    · exact settle_activates hd hg hr hp ha hs
    · exact settle_dozes hd hg hr hp (Bool.eq_false_iff.2 ha) hs hw
    · have hc : choosePower s = s := choosePower_steady fun _ => ha
      rw [settle_chosen hd hg hc hg hp hc, refreshWake_none hw]
    · have hc : choosePower s = s := choosePower_steady fun _ => ha
      rw [settle_chosen hd hg hc hg hp hc, refreshWake_held hr (by simp [hw]) hdn hn]
      rfl
    · rw [settle_prepares hd hg hr ha hs hw hn hb hf hu ht hst hl hrec hv hsv, prepare_settled hl hrec hv hsv]
      rfl

end Sys2Proof.Machine
end

section
/-! SUPPORT. Slots and generations, conflicts and priorities (O21). -/

namespace Sys2Proof.Machine

/-! ### Leaving and joining the plan (R39) -/

theorem inPlan_iff {h : Handle} {s : State} : inPlan h s = true ↔ ∃ e ∈ s.plan, e.handle = h := by simp [inPlan]

theorem removeEntry_absent {h : Handle} {s : State} (hn : ∀ e ∈ s.plan, e.handle ≠ h) : removeEntry h s = s := by
  rw [removeEntry, if_neg]
  rw [inPlan_iff]
  rintro ⟨e, he, hh⟩
  exact hn e he hh

theorem removeEntry_present {h : Handle} {s : State} (hi : inPlan h s = true) : removeEntry h s =
    { s with
      plan := s.plan.filter (fun e => e.handle != h), gens := s.gens.set h.slot (s.gens[h.slot] + 1),
      rsq := { s.rsq with waiting := s.rsq.waiting.filter (fun c => !isSetupFor h c),
                          gap := s.rsq.gap.filter (fun g => g.handle != h) } } := by
  rw [removeEntry, if_pos hi]
  rfl

theorem slotFree_iff (plan : List Entry) (i : Fin 48) :
    plan.all (fun e => e.handle.slot != i) = true ↔ ∀ e ∈ plan, e.handle.slot ≠ i := by simp

theorem slotTaken_iff (plan : List Entry) (i : Fin 48) :
    (!plan.all (fun e => e.handle.slot != i)) = true ↔ ∃ e ∈ plan, e.handle.slot = i := by simp

/-- The slot found is the lowest free one: those before it in the list of slots are taken. -/
theorem freeSlot_some {plan : List Entry} {i : Fin 48} (h : freeSlot plan = some i) :
    (∀ e ∈ plan, e.handle.slot ≠ i) ∧ ∀ j < i, ∃ e ∈ plan, e.handle.slot = j := by
  obtain ⟨hfree, before, after, hl, hbefore⟩ := List.find?_eq_some_iff_append.1 h
  refine ⟨(slotFree_iff plan i).1 hfree, fun j hj => (slotTaken_iff plan j).1 (hbefore j ?_)⟩
  have hsorted : (before ++ i :: after).Pairwise (· < ·) := hl ▸ List.pairwise_lt_finRange 48
  have hin : j ∈ before ++ i :: after := hl ▸ List.mem_finRange j
  rcases List.mem_append.1 hin with hb | ha
  · exact hb
  · rcases List.mem_cons.1 ha with rfl | ha
    · exact absurd hj (lt_irrefl _)
    · have hlt := (List.pairwise_cons.1 (List.pairwise_append.1 hsorted).2.1).1 j ha
      exact absurd hj (lt_asymm hlt)

theorem freeSlot_none {plan : List Entry} : freeSlot plan = none ↔ ∀ i : Fin 48, ∃ e ∈ plan, e.handle.slot = i := by
  rw [freeSlot, List.find?_eq_none]
  refine ⟨fun h i => (slotTaken_iff plan i).1 (by simpa using h i (List.mem_finRange i)), fun h i _ hfree => ?_⟩
  obtain ⟨e, he, hs⟩ := h i
  exact (slotFree_iff plan i).1 hfree e he hs

theorem nextHandle_some {s : State} {h : Handle} (hn : nextHandle s = some h) :
    h.gen = s.gens[h.slot] ∧ (∀ e ∈ s.plan, e.handle.slot ≠ h.slot) ∧ ∀ i < h.slot, ∃ e ∈ s.plan, e.handle.slot = i := by
  obtain ⟨i, hi, rfl⟩ := Option.map_eq_some_iff.1 hn
  exact ⟨rfl, freeSlot_some hi⟩

/-! ### Conflicts (R43) -/

theorem guardOwed_eq (retune turn : Nat) (e f : Entry) : guardOwed retune turn e f =
    if e.owner = f.owner ∧ e.channel = f.channel then (if e.dir = f.dir then 0 else turn) else retune := by
  unfold guardOwed
  by_cases ho : e.owner = f.owner
  · by_cases hc : e.channel = f.channel
    · by_cases hd : e.dir = f.dir <;> simp [ho, hc, hd]
    · simp [ho, hc]
  · simp [ho]

theorem conflicts_same_start (retune turn : Nat) {e f : Entry} (h : e.start = f.start) : conflicts retune turn e f = true :=
  if_pos h

/-- The later start must not lie before the earlier end plus the guard. -/
theorem conflicts_earlier (retune turn : Nat) {e f : Entry} (hne : e.start ≠ f.start)
    (h : ltReached f.start e.start = true) : conflicts retune turn e f = true ↔
      ltReached f.start (e.stop + BitVec.ofNat 48 (guardOwed retune turn e f)) = false := by
  have ha : ltAfter f.start e.start = true := by simp [ltAfter, h, hne.symm]
  rw [conflicts]
  simp [hne, ha, ltAdd]

theorem conflicts_later (retune turn : Nat) {e f : Entry} (hne : e.start ≠ f.start)
    (h : ltReached f.start e.start = false) : conflicts retune turn e f = true ↔
      ltReached e.start (f.stop + BitVec.ofNat 48 (guardOwed retune turn e f)) = false := by
  have ha : ltAfter f.start e.start = false := by simp [ltAfter, h]
  rw [conflicts]
  simp [hne, ha, ltAdd]

/-! ### Priorities (R41) -/

theorem inExchange_iff (c : Context) :
    inExchange c = true ↔ c.state = .exchange ∨ (c.state = .handover ∧ c.prior = some .exchange) := by
  rw [inExchange_eq, decide_eq_true_eq]

/-- An EXCH one-shot has priority 3 in an exchange while the other subscription holds no claim, and 2 otherwise. -/
theorem priorityOf_exch {k : Kind} (hk : k = .exchRx ∨ k = .exchTx) (x : Subscription) (s : State) : priorityOf k x s =
    if inExchange (s.cxm.get x) = true ∧ s.ceu.claim ≠ some x.other then 3 else 2 := by
  rcases hk with rfl | rfl <;> simp [priorityOf]

/-- Settles O21. -/
theorem slotsConflictsAndPriorities : Obligations.SlotsConflictsAndPriorities := by
  refine ⟨⟨fun h s => ⟨removeEntry_absent, fun hi => removeEntry_present (inPlan_iff.2 hi)⟩,
    fun s => ⟨fun h => nextHandle_some, ?_⟩⟩, fun retune turn e f => ?_, fun x s => ?_⟩
  · rw [nextHandle, Option.map_eq_none_iff, freeSlot_none]
  · dsimp only
    rw [← guardOwed_eq]
    exact ⟨conflicts_same_start retune turn, conflicts_earlier retune turn, conflicts_later retune turn⟩
  · refine ⟨rfl, rfl, rfl, rfl, rfl, rfl, rfl, fun k hk => ?_⟩
    rw [priorityOf_exch hk, ← inExchange_iff]
    split
    · rename_i h
      exact ⟨by simpa using h, .inl rfl⟩
    · rename_i h
      exact ⟨by simpa using h, .inr rfl⟩

end Sys2Proof.Machine
end

section
/-! SUPPORT. Admission (O22): its verdict branch by branch, the obstacles of a newcomer, and a displaced one-shot. -/

namespace Sys2Proof.Machine

/-! ### The verdict, branch by branch (R45, R46, R56, R57) -/

section
variable {ms : List Entry} {t : LT} {s : State}

/-- R45: a newcomer that starts no later than now + 6,500. -/
theorem admit_late (ht : newcomerStart ms = some t) (ha : ltAfter t (ltAdd (now s) Config.prepareLead) = false) :
    admitEntries false ms s = .refused (firstKind ms) .late := by
  unfold admitEntries
  rw [ht]
  simp [ha]

variable (ht : newcomerStart ms = some t) (ha : ltAfter t (ltAdd (now s) Config.prepareLead) = true)
include ht ha

/-- R40: a newcomer that finds the plan full. -/
theorem admit_full (hl : 48 < s.plan.length + ms.length) : admitEntries false ms s = .refused (firstKind ms) .tableFull := by
  have hcap : Config.planCapacity < s.plan.length + ms.length := hl
  unfold admitEntries
  rw [ht]
  simp [ha, hcap]

variable (hl : s.plan.length + ms.length ≤ 48)
include hl

theorem admit_yieldsCalls (hc : yieldsCalls ms s = true) : admitEntries false ms s =
    .admitted (place false ms (spendCredit (callFrames (affected ms s)) (forEntries yieldEntry (affected ms s) s))).1
      (place false ms (spendCredit (callFrames (affected ms s)) (forEntries yieldEntry (affected ms s) s))).2 := by
  have hcap : ¬ Config.planCapacity < s.plan.length + ms.length := Nat.not_lt.2 hl
  unfold admitEntries
  rw [ht]
  simp [ha, hcap, hc]

variable (hc : yieldsCalls ms s = false)
include hc

theorem admit_yieldsSelf {y : Subscription} (hs : yieldsSelf ms s = true) (hy : s.ceu.claim = some y) :
    admitEntries false ms s = .yielded (notify y (.callYield (firstFrame ms)) (spendCredit 1 s)) := by
  have hcap : ¬ Config.planCapacity < s.plan.length + ms.length := Nat.not_lt.2 hl
  unfold admitEntries
  rw [ht]
  simp [ha, hcap, hc, hs, hy]

variable (hs : yieldsSelf ms s = false)
include hs

theorem admit_beaten (hb : beatsAll ms s = true) : admitEntries false ms s =
    .admitted (place false ms (forEntries (defeat ms) (affected ms s) s)).1
      (place false ms (forEntries (defeat ms) (affected ms s) s)).2 := by
  have hcap : ¬ Config.planCapacity < s.plan.length + ms.length := Nat.not_lt.2 hl
  unfold admitEntries
  rw [ht]
  simp [ha, hcap, hc, hs, hb]

theorem admit_conflict (hb : beatsAll ms s = false) : admitEntries false ms s = .refused (concernedKind ms s) .conflict := by
  have hcap : ¬ Config.planCapacity < s.plan.length + ms.length := Nat.not_lt.2 hl
  unfold admitEntries
  rw [ht]
  simp [ha, hcap, hc, hs, hb]

end

/-! ### Obstacles -/

section
variable {ms : List Entry} {m e : Entry} {s : State}

theorem mem_affected_of_meets (he : e ∈ s.plan) (hm : m ∈ ms) (h : conflicts s.air.gRetune s.air.gTurn m e = true) :
    e ∈ affected ms s := by
  have ho : e ∈ obstacles ms s := List.mem_filter.2 ⟨he, List.any_eq_true.2 ⟨m, hm, h⟩⟩
  exact List.mem_filter.2 ⟨he, List.any_eq_true.2 ⟨e, ho, by simp⟩⟩

/-- Tune-away gives up no obstacle that is EXECUTING (R56). -/
theorem yieldsCalls_executing (he : e ∈ affected ms s) (hx : e.state = .executing) : yieldsCalls ms s = false := by
  unfold yieldsCalls
  split
  · rename_i y _
    have hall : (affected ms s).all (fun e => e.origin == .call && e.owner == y && e.state != .executing) = false :=
      List.all_eq_false.2 ⟨e, he, by simp [hx]⟩
    simp only [hall, Bool.and_false, Bool.false_and]
  · rfl

theorem yieldsSelf_executing (he : e ∈ affected ms s) (hx : e.state = .executing) : yieldsSelf ms s = false := by
  unfold yieldsSelf
  split
  · rename_i y _
    have hall : (affected ms s).all (fun e => isEligible e.kind && e.owner != y && e.state != .executing) = false :=
      List.all_eq_false.2 ⟨e, he, by simp [hx]⟩
    simp only [hall, Bool.and_false, Bool.false_and]
  · rfl

/-- R46: an EXECUTING entry of priority 2 or 3 is beaten by none. -/
theorem beats_executing (p : Nat) (hx : e.state = .executing) (hp : 2 ≤ e.priority) : beats p e = false := by
  have h1 : ¬ e.priority ≤ 1 := by omega
  simp [beats, hx, h1]

/-- A newcomer of one member names its own kind in its refusal. -/
theorem concernedKind_single (m : Entry) (s : State) : concernedKind [m] s = m.kind := by
  unfold concernedKind
  split
  · rename_i k hk
    rw [List.mem_singleton.1 (List.mem_of_find?_eq_some hk)]
  · rfl

end

/-! ### A displaced one-shot (R47, R52) -/

theorem partnerLeaves_alone {e : Entry} (h : e.partner = none) (s : State) : partnerLeaves e s = s := by
  simp [partnerLeaves, partnerOf, h]

theorem tellLost_oneShot {e : Entry} (h : e.origin = .oneShot) (how : LossKind) (r : Reason) (s : State) :
    tellLost e how r s = notify e.owner (match how with
      | .displaced => .displaced (windowDetail e (some r) none)
      | .aborted => .aborted (windowDetail e (some r) none)) s := by
  unfold tellLost
  rw [h]
  cases how <;> rfl

theorem now_removeEntry (h : Handle) (s : State) : now (removeEntry h s) = s.tbu.lt := by
  rw [now, tbu_of_base (base_removeEntry h s)]

/-- Settles O22. -/
theorem admissionAndDisplacement : Obligations.AdmissionAndDisplacement := by
  refine ⟨fun m s ht hl => ⟨fun h hf hh => admit_free ht hl hh hf, ?_⟩, fun e r s ho hp => ?_⟩
  · rintro ⟨e, he, hc, hx, hp⟩
    have hin : e ∈ affected [m] s := mem_affected_of_meets he (List.mem_singleton_self m) hc
    have hb : beatsAll [m] s = false :=
      List.all_eq_false.2 ⟨e, hin, by simp [beats_executing m.priority hx hp]⟩
    rw [admit_conflict (ms := [m]) rfl ht hl (yieldsCalls_executing hin hx) (yieldsSelf_executing hin hx) hb, concernedKind_single]
  · rw [displaceEntry, partnerLeaves_alone hp, tellLost_oneShot ho]
    dsimp only
    rw [notify, now_removeEntry]
    rfl

end Sys2Proof.Machine
end

section
/-! SUPPORT. Admission over obstacles (O23): one obstacle, a call frame on free time, and tune-away both ways. -/

namespace Sys2Proof.Machine

/-! ### What an entry's removal keeps -/

theorem PlanOnly.keeps {s t : State} (h : PlanOnly s t) :
    t.patterns = s.patterns ∧ t.queues = s.queues ∧ t.missed = s.missed := by
  unfold PlanOnly at h
  rw [h]
  exact ⟨rfl, rfl, rfl⟩

@[simp] theorem patterns_removeEntry (h : Handle) (s : State) : (removeEntry h s).patterns = s.patterns :=
  (planOnly_removeEntry h s).keeps.1
@[simp] theorem queues_removeEntry (h : Handle) (s : State) : (removeEntry h s).queues = s.queues :=
  (planOnly_removeEntry h s).keeps.2.1
@[simp] theorem missed_removeEntry (h : Handle) (s : State) : (removeEntry h s).missed = s.missed :=
  (planOnly_removeEntry h s).keeps.2.2

/-! ### One obstacle that is no call member -/

section
variable {m f : Entry} {s : State}

/-- An obstacle of its own handle, which no call frame binds to another entry, is the one entry affected (R45, R49). -/
theorem affected_single (hc : f.origin ≠ .call)
    (hf : s.plan.filter (fun e => conflicts s.air.gRetune s.air.gTurn m e) = [f])
    (hu : ∀ e ∈ s.plan, e.handle = f.handle → e = f) : affected [m] s = [f] := by
  have ho : obstacles [m] s = [f] := by simpa [obstacles, meets] using hf
  rw [affected, ho]
  refine (List.filter_congr fun e he => ?_).trans hf
  have hmem : conflicts s.air.gRetune s.air.gTurn m e = true ↔ e = f := by
    rw [← List.mem_singleton (b := f), ← hf, List.mem_filter]
    exact ⟨fun h => ⟨he, h⟩, And.right⟩
  have hiff : isAffected [f] e = true ↔ e = f := by
    simp only [isAffected, List.any_cons, List.any_nil, hc, beq_iff_eq, Bool.or_false, Bool.or_eq_true, Bool.and_eq_true,
      false_and, or_false]
    exact ⟨fun h => hu e he h.symm, fun h => by rw [h]⟩
  exact Bool.eq_iff_iff.2 (hiff.trans hmem.symm)

/-- R56 gives up call frames alone. -/
theorem yieldsCalls_other (ha : affected [m] s = [f]) (hc : f.origin ≠ .call) : yieldsCalls [m] s = false := by
  unfold yieldsCalls
  split <;> simp [ha, hc]

/-- R57 lets a call frame alone yield. -/
theorem yieldsSelf_other (hc : m.origin ≠ .call) : yieldsSelf [m] s = false := by
  unfold yieldsSelf
  split <;> simp [hc]

theorem beatsAll_single (ha : affected [m] s = [f]) : beatsAll [m] s = beats m.priority f := by simp [beatsAll, ha]

theorem placeOne_newcomer {u : State} {h : Handle} (hn : nextHandle u = some h) :
    placeOne false m u = ({ m with handle := h }, addEntry { m with handle := h } u) := by
  simp [placeOne, hn]

/-- A newcomer of one member takes the next handle (R39). -/
theorem place_single {u : State} {h : Handle} (hn : nextHandle u = some h) :
    place false [m] u = ([h], { u with plan := insertByStart { m with handle := h } u.plan }) := by
  simp only [place, placeOne_newcomer hn, addEntry]

/-- R48: the new end of an obstacle met by one member. -/
theorem cutBackEnd_single (h : conflicts s.air.gRetune s.air.gTurn m f = true) :
    cutBackEnd [m] f s = some (ltSub m.start (guardOwed s.air.gRetune s.air.gTurn m f)) := by
  simp [cutBackEnd, meets, h, ltEarliest]

theorem defeat_waiting {ms : List Entry} (hi : inPlan f.handle s = true) (hx : f.state ≠ .executing) :
    defeat ms f s = displaceEntry f .priority s := by
  simp [defeat, hi, hx]

theorem defeat_executing {ms : List Entry} (hi : inPlan f.handle s = true) (hx : f.state = .executing) :
    defeat ms f s = cutBack ms f s := by
  simp [defeat, hi, hx]

/-- R46: what a newcomer beats. -/
theorem beats_iff (p : Nat) (e : Entry) :
    beats p e = true ↔ e.priority < p ∧ (e.state = .executing → e.priority ≤ 1) := by
  unfold beats
  split
  · rename_i hx
    simp [hx, and_comm]
  · rename_i hx
    simp [hx]

/-- The next handle depends on the handles of the plan alone. -/
theorem nextHandle_map (g : Entry → Entry) (hg : ∀ e, (g e).handle = e.handle) :
    nextHandle { s with plan := s.plan.map g } = nextHandle s := by
  simp [nextHandle, freeSlot, List.all_map, Function.comp_def, hg]

/-- R45 to R48: a newcomer of one member against one obstacle that is no call member. -/
theorem admit_overObstacle (ht : ltAfter m.start (ltAdd (now s) Config.prepareLead) = true) (hl : s.plan.length < 48)
    (hm : m.origin ≠ .call) (hc : f.origin ≠ .call) (ha : affected [m] s = [f]) :
    (beats m.priority f = true → ∀ h, nextHandle (defeat [m] f s) = some h →
      admitEntries false [m] s =
        .admitted [h] { defeat [m] f s with plan := insertByStart { m with handle := h } (defeat [m] f s).plan }) ∧
    (beats m.priority f = false → admitEntries false [m] s = .refused m.kind .conflict) := by
  have hyc := yieldsCalls_other ha hc
  have hys := yieldsSelf_other (s := s) hm
  refine ⟨fun hb h hn => ?_, fun hb => ?_⟩
  · rw [admit_beaten (ms := [m]) rfl ht hl hyc hys (by rw [beatsAll_single ha, hb]), ha]
    simp only [forEntries, place_single hn]
  · rw [admit_conflict (ms := [m]) rfl ht hl hyc hys (by rw [beatsAll_single ha, hb]), concernedKind_single]

/-- R48: a beaten EXECUTING obstacle is cut back at the newcomer's start less the guard owed. -/
theorem cutBack_truncates (hmeets : conflicts s.air.gRetune s.air.gTurn m f = true)
    (hr : ltAfter (ltSub m.start (guardOwed s.air.gRetune s.air.gTurn m f)) (now s) = true ∧
      ltReached (ltSub m.start (guardOwed s.air.gRetune s.air.gTurn m f)) (ltAdd f.start Config.minLength) = true) :
    cutBack [m] f s = modifyEntry f.handle
      (fun e => { e with stop := ltSub m.start (guardOwed s.air.gRetune s.air.gTurn m f), cut := true }) s := by
  simp [cutBack, cutBackEnd_single hmeets, hr]

theorem cutBack_aborts (hmeets : conflicts s.air.gRetune s.air.gTurn m f = true)
    (hr : ¬ (ltAfter (ltSub m.start (guardOwed s.air.gRetune s.air.gTurn m f)) (now s) = true ∧
      ltReached (ltSub m.start (guardOwed s.air.gRetune s.air.gTurn m f)) (ltAdd f.start Config.minLength) = true)) :
    cutBack [m] f s = cutEntry f .cut s := by
  simp only [cutBack, cutBackEnd_single hmeets, Bool.and_eq_true, hr, if_false]

end

/-! ### A call frame on free time (R49) -/

theorem length_insertByStart (e : Entry) (l : List Entry) : (insertByStart e l).length = l.length + 1 := by
  induction l with
  | nil => rfl
  | cons f fs ih => unfold insertByStart; split <;> simp [ih]

theorem mem_insertByStart {e g : Entry} {l : List Entry} : g ∈ insertByStart e l ↔ g = e ∨ g ∈ l := by
  induction l with
  | nil => simp [insertByStart]
  | cons f fs ih =>
    unfold insertByStart
    split
    · simp
    · rw [List.mem_cons, ih, List.mem_cons]; tauto

section
variable {m n : Entry} {s : State}

theorem ltAfter_newcomerStart_pair {t : LT} (hm : ltAfter m.start t = true) (hn : ltAfter n.start t = true) :
    ∃ u, newcomerStart [m, n] = some u ∧ ltAfter u t = true := by
  refine ⟨ltEarlier m.start n.start, rfl, ?_⟩
  unfold ltEarlier
  split
  · exact hm
  · exact hn

/-- A newcomer whose members meet nothing has no obstacles (R45, R49). -/
theorem affected_unmet {ms : List Entry} (h : ∀ e ∈ s.plan, ∀ k ∈ ms, conflicts s.air.gRetune s.air.gTurn k e = false) :
    affected ms s = [] := by
  have ho : obstacles ms s = [] := by
    refine List.filter_eq_nil_iff.2 fun e he => ?_
    rw [Bool.not_eq_true, List.any_eq_false]
    exact fun k hk => by simp [meets, h e he k hk]
  rw [affected, ho]
  exact List.filter_eq_nil_iff.2 fun f _ => by simp [isAffected]

theorem yieldsCalls_unmet {ms : List Entry} (ha : affected ms s = []) : yieldsCalls ms s = false := by
  unfold yieldsCalls
  split <;> simp [ha]

theorem yieldsSelf_unmet {ms : List Entry} (ha : affected ms s = []) : yieldsSelf ms s = false := by
  unfold yieldsSelf
  split <;> simp [ha]

/-- The two members of a call frame take the next two handles and name each other (R39, R49). -/
theorem place_pair {h g : Handle} (hh : nextHandle s = some h)
    (hg : nextHandle { s with plan := insertByStart { m with handle := h } s.plan } = some g) :
    place false [m, n] s = ([h, g], linkPartners h g
      { s with plan := insertByStart { n with handle := g } (insertByStart { m with handle := h } s.plan) }) := by
  simp only [place, placeOne_newcomer hh]
  rw [placeOne_newcomer (u := addEntry { m with handle := h } s) hg]
  rfl

/-- R45, R49: a call frame that meets nothing. -/
theorem admit_freePair {h g : Handle} (hm : ltAfter m.start (ltAdd (now s) Config.prepareLead) = true)
    (hn : ltAfter n.start (ltAdd (now s) Config.prepareLead) = true) (hl : s.plan.length + 2 ≤ 48)
    (hh : nextHandle s = some h)
    (hg : nextHandle { s with plan := insertByStart { m with handle := h } s.plan } = some g)
    (hfree : ∀ e ∈ s.plan, ∀ k ∈ [m, n], conflicts s.air.gRetune s.air.gTurn k e = false) :
    admitEntries false [m, n] s = .admitted [h, g] (linkPartners h g
      { s with plan := insertByStart { n with handle := g } (insertByStart { m with handle := h } s.plan) }) := by
  obtain ⟨u, hu, hafter⟩ := ltAfter_newcomerStart_pair hm hn
  have ha := affected_unmet hfree
  rw [admit_beaten hu hafter hl (yieldsCalls_unmet ha) (yieldsSelf_unmet ha) (by simp [beatsAll, ha]), ha]
  simp only [forEntries, place_pair hh hg]

end

/-- An entry after the two members of a call frame have named each other (R49). -/
def linkedMember (h g : Handle) (e : Entry) : Entry :=
  if e.handle = h then { e with partner := some g } else if e.handle = g then { e with partner := some h } else e

theorem linkPartners_eq {h g : Handle} (hne : h ≠ g) (u : State) :
    linkPartners h g u = { u with plan := u.plan.map (linkedMember h g) } := by
  have hmap : ∀ e : Entry, (if (if e.handle == h then { e with partner := some g } else e).handle == g
      then { (if e.handle == h then { e with partner := some g } else e) with partner := some h }
      else (if e.handle == h then { e with partner := some g } else e)) = linkedMember h g e := by
    intro e
    by_cases h1 : e.handle = h
    · simp [linkedMember, h1, hne]
    · by_cases h2 : e.handle = g <;> simp [linkedMember, h1, h2, hne.symm]
  simp only [linkPartners, modifyEntry, List.map_map, Function.comp_def, hmap]

theorem linkedMember_other {h g : Handle} {e : Entry} (hh : e.handle ≠ h) (hg : e.handle ≠ g) : linkedMember h g e = e := by
  rw [linkedMember, if_neg hh, if_neg hg]

/-- The plan after a call frame took its places: two entries more, the members naming each other (R49). -/
theorem plan_freePair {m n : Entry} {h g : Handle} {s : State} (hh : nextHandle s = some h)
    (hg : nextHandle { s with plan := insertByStart { m with handle := h } s.plan } = some g) :
    ∃ plan : List Entry, linkPartners h g
        { s with plan := insertByStart { n with handle := g } (insertByStart { m with handle := h } s.plan) } =
        { s with plan := plan } ∧ h.slot ≠ g.slot ∧ plan.length = s.plan.length + 2 ∧
      { m with handle := h, partner := some g } ∈ plan ∧ { n with handle := g, partner := some h } ∈ plan ∧
      ∀ e ∈ s.plan, e ∈ plan := by
  obtain ⟨-, hfree, -⟩ := nextHandle_some hh
  obtain ⟨-, gfree, -⟩ := nextHandle_some hg
  have hslot : h.slot ≠ g.slot := gfree { m with handle := h } (mem_insertByStart.2 (.inl rfl))
  have hne : h ≠ g := fun heq => hslot (congrArg Handle.slot heq)
  refine ⟨_, linkPartners_eq hne _, hslot, ?_, ?_, ?_, fun e he => ?_⟩
  · simp [length_insertByStart]
  · refine List.mem_map.2 ⟨{ m with handle := h }, ?_, by simp [linkedMember]⟩
    exact mem_insertByStart.2 (.inr (mem_insertByStart.2 (.inl rfl)))
  · exact List.mem_map.2 ⟨{ n with handle := g }, mem_insertByStart.2 (.inl rfl), by simp [linkedMember, hne.symm]⟩
  · have hin : e ∈ insertByStart { m with handle := h } s.plan := mem_insertByStart.2 (.inr he)
    refine List.mem_map.2 ⟨e, mem_insertByStart.2 (.inr hin), linkedMember_other ?_ ?_⟩
    · exact fun heq => hfree e he (congrArg Handle.slot heq)
    · exact fun heq => gfree e hin (congrArg Handle.slot heq)

/-! ### Tune-away: a call frame given up (R56) -/

theorem patternOf_updPattern (x : Subscription) (k : Pat) (f : Pattern → Pattern) (s : State) :
    patternOf x k (updPattern x k f s) = f (patternOf x k s) := by
  cases k <;> simp [patternOf, updPattern, Patterns.get, Patterns.set]

theorem findEntry_of_mem {e : Entry} {s : State} (hd : slotsDistinct s.plan = true) (he : e ∈ s.plan) :
    findEntry e.handle s = some e := by
  cases hf : findEntry e.handle s with
  | none => exact absurd (List.find?_eq_none.1 hf e he) (by simp)
  | some f =>
    have hh : f.handle = e.handle := by simpa using List.find?_some hf
    rw [eq_of_handle hd (List.mem_of_find?_eq_some hf) he hh]

theorem slots_nodup {l : List Entry} (h : slotsDistinct l = true) : (l.map fun e => e.handle.slot).Nodup := by
  induction l with
  | nil => exact .nil
  | cons e es ih =>
    rw [slotsDistinct, Bool.and_eq_true] at h
    obtain ⟨hne, hes⟩ := h
    rw [List.map_cons, List.nodup_cons]
    refine ⟨fun hin => ?_, ih hes⟩
    obtain ⟨f, hf, hs⟩ := List.mem_map.1 hin
    simpa [hs] using List.all_eq_true.1 hne f hf

/-- In a plan of distinct slots a slot names one entry. -/
theorem eq_of_slot {l : List Entry} (h : slotsDistinct l = true) {e f : Entry} (he : e ∈ l) (hf : f ∈ l)
    (heq : e.handle.slot = f.handle.slot) : e = f := List.inj_on_of_nodup_map (slots_nodup h) he hf heq

/-- Two entries of the plan that are the members of one call frame (R49). -/
structure CallPair (a b : Entry) (s : State) : Prop where
  distinct : slotsDistinct s.plan = true
  memLeft : a ∈ s.plan
  memRight : b ∈ s.plan
  sameOwner : b.owner = a.owner
  ofCall : b.origin = .call
  namesRight : a.partner = some b.handle
  namesLeft : b.partner = some a.handle
  handleNe : b.handle ≠ a.handle

section
variable {a b : Entry} {s : State}

theorem CallPair.partnerOf (h : CallPair a b s) : partnerOf a s = some b := by
  simp [Machine.partnerOf, h.namesRight, findEntry_of_mem h.distinct h.memRight, Option.filter, h.ofCall, h.sameOwner, h.namesLeft]

/-- Once one member has left, the other is still found by it. -/
theorem CallPair.partnerOf_removed (h : CallPair a b s) {u : State}
    (hu : u.plan = s.plan.filter (fun e => e.handle != a.handle)) : Machine.partnerOf a u = some b := by
  have hmem : b ∈ u.plan := by rw [hu]; exact List.mem_filter.2 ⟨h.memRight, by simp [h.handleNe]⟩
  have hd : slotsDistinct u.plan = true := by rw [hu]; exact slotsDistinct_filter _ h.distinct
  simp [Machine.partnerOf, h.namesRight, findEntry_of_mem hd hmem, Option.filter, h.ofCall, h.sameOwner, h.namesLeft]

theorem partnerLeaves_waiting {u : State} (hp : Machine.partnerOf a u = some b) (hx : b.state ≠ .executing) :
    partnerLeaves a u = memberGone b.owner .call b.handle none (removeEntry b.handle u) := by
  simp [partnerLeaves, hp, hx]

/-- A member gone, with no loss, from an occurrence of which another is left (R49). -/
theorem memberGone_oneLeft {x : Subscription} {k : Pat} {h g : Handle} {ms : List Handle} {st : LT} {u : State}
    (hp : (patternOf x k u).pending = .inPlan ms st none) (hc : ms.contains h = true) (hr : ms.erase h = [g]) :
    memberGone x k h none u = updPattern x k (fun p => { p with pending := .inPlan [g] st none }) u := by
  simp only [memberGone, hp, hc, hr, firstLoss]
  rfl

theorem yieldTurn_inPlan {x : Subscription} {h : Handle} {ms : List Handle} {st : LT} {held : Option LossDetail} {u : State}
    (hp : (patternOf x .call u).pending = .inPlan ms st held) (hc : ms.contains h = true) :
    yieldTurn x h u = updPattern x .call (fun p => { p with pending := .due st }) u := by
  simp only [yieldTurn, hp, hc, if_true]

/-- A call frame given up at its first member: both members leave and its turn ends, CALL_YIELD told alone (R56, R62). -/
theorem CallPair.yieldEntry_eq (h : CallPair a b s) (hx : b.state ≠ .executing) {ms : List Handle} {st : LT}
    (hp : (patternOf a.owner .call s).pending = .inPlan ms st none) (hb : ms.contains b.handle = true)
    (hr : ms.erase b.handle = [a.handle]) :
    yieldEntry a s = updPattern a.owner .call (fun p => { p with pending := .due st })
      (updPattern a.owner .call (fun p => { p with pending := .inPlan [a.handle] st none })
        (removeEntry b.handle (removeEntry a.handle (notify a.owner (.callYield (callFrameStart a s)) s)))) := by
  have hin : inPlan a.handle s = true := inPlan_iff.2 ⟨a, h.memLeft, rfl⟩
  have hpart : Machine.partnerOf a (removeEntry a.handle (notify a.owner (.callYield (callFrameStart a s)) s)) = some b :=
    h.partnerOf_removed (plan_removeEntry _ _)
  rw [yieldEntry, if_pos hin, partnerLeaves_waiting hpart hx, h.sameOwner, memberGone_oneLeft (st := st) ?_ hb hr,
    yieldTurn_inPlan (ms := [a.handle]) (st := st) (held := none) ?_ (by simp)]
  · rw [patternOf_updPattern]
  · rw [← hp]; simp [patternOf, notify, notifyAt]

/-- What a call frame given up leaves behind. -/
theorem CallPair.yieldEntry_keeps (h : CallPair a b s) (hx : b.state ≠ .executing) {ms : List Handle} {st : LT}
    (hp : (patternOf a.owner .call s).pending = .inPlan ms st none) (hb : ms.contains b.handle = true)
    (hr : ms.erase b.handle = [a.handle]) :
    (yieldEntry a s).plan = s.plan.filter (fun k => k.handle != a.handle && k.handle != b.handle) ∧
    (yieldEntry a s).credit = s.credit ∧ (yieldEntry a s).missed = s.missed ∧
    (yieldEntry a s).queues = s.queues.upd a.owner.port (fun n => n.push
      { body := .callYield (callFrameStart a s), sub := some a.owner, stamp := s.tbu.lt }) ∧
    patternOf a.owner .call (yieldEntry a s) = { patternOf a.owner .call s with pending := .due st } := by
  rw [h.yieldEntry_eq hx hp hb hr]
  refine ⟨?_, ?_, ?_, ?_, ?_⟩
  · simp [List.filter_filter, notify, notifyAt, Bool.and_comm]
  · simp [notify, notifyAt]
  · simp [notify, notifyAt]
  · simp [notify, notifyAt, now]
  · rw [patternOf_updPattern, patternOf_updPattern]
    simp [patternOf, notify, notifyAt]

end

section
variable {m e f : Entry} {s : State}

theorem CallPair.symm (h : CallPair e f s) (ho : e.origin = .call) : CallPair f e s where
  distinct := h.distinct
  memLeft := h.memRight
  memRight := h.memLeft
  sameOwner := h.sameOwner.symm
  ofCall := ho
  namesRight := h.namesLeft
  namesLeft := h.namesRight
  handleNe := h.handleNe.symm

/-- The members of a call frame one of which a newcomer meets, and which it meets alone, are the entries affected (R49). -/
theorem affected_callPair (h : CallPair e f s) (ho : e.origin = .call)
    (hmeet : conflicts s.air.gRetune s.air.gTurn m e = true ∨ conflicts s.air.gRetune s.air.gTurn m f = true)
    (honly : ∀ k ∈ s.plan, conflicts s.air.gRetune s.air.gTurn m k = true → k = e ∨ k = f) :
    affected [m] s = [e, f] ∨ affected [m] s = [f, e] := by
  have hobs : ∀ k, k ∈ obstacles [m] s ↔ k ∈ s.plan ∧ conflicts s.air.gRetune s.air.gTurn m k = true := by
    intro k; simp [obstacles, meets]
  have hnodup : s.plan.Nodup := (handles_nodup h.distinct).of_map
  have hne : e ≠ f := fun heq => h.handleNe (by rw [heq])
  refine List.perm_pair.1 ((List.perm_ext_iff_of_nodup (hnodup.filter _) (by simp [hne])).2 fun k => ?_)
  have hiff : k ∈ [e, f] ↔ k = e ∨ k = f := by simp
  rw [hiff, List.mem_filter]
  constructor
  · rintro ⟨hk, haff⟩
    obtain ⟨o, hin, hor⟩ := List.any_eq_true.1 haff
    obtain ⟨hop, hoc⟩ := (hobs o).1 hin
    have hoe := honly o hop hoc
    simp only [Bool.or_eq_true, Bool.and_eq_true, beq_iff_eq] at hor
    rcases hor with hh | ⟨-, hpart⟩
    · exact eq_of_handle h.distinct hop hk hh ▸ hoe
    · rcases hoe with rfl | rfl
      · rw [h.namesRight, Option.some.injEq] at hpart
        exact .inr (eq_of_handle h.distinct hk h.memRight hpart.symm)
      · rw [h.namesLeft, Option.some.injEq] at hpart
        exact .inl (eq_of_handle h.distinct hk h.memLeft hpart.symm)
  · rintro (rfl | rfl)
    · refine ⟨h.memLeft, List.any_eq_true.2 ?_⟩
      rcases hmeet with hc | hc
      · exact ⟨k, (hobs k).2 ⟨h.memLeft, hc⟩, by simp⟩
      · exact ⟨f, (hobs f).2 ⟨h.memRight, hc⟩, by simp [h.ofCall, ho, h.sameOwner, h.namesLeft]⟩
    · refine ⟨h.memRight, List.any_eq_true.2 ?_⟩
      rcases hmeet with hc | hc
      · exact ⟨e, (hobs e).2 ⟨h.memLeft, hc⟩, by simp [h.ofCall, ho, h.sameOwner, h.namesRight]⟩
      · exact ⟨k, (hobs k).2 ⟨h.memRight, hc⟩, by simp⟩

theorem callFrameStart_left (hk : e.kind = .callRx) : callFrameStart e s = e.frameOrZero := if_pos hk

theorem callFrameStart_right (h : CallPair e f s) (ho : e.origin = .call) (hk : f.kind = .callTx) :
    callFrameStart f s = e.frameOrZero := by
  simp [callFrameStart, hk, (h.symm ho).partnerOf]

/-- A call frame counts once, by its CALL_RX (R56). -/
theorem callFrames_callPair (h : CallPair e f s) (hke : e.kind = .callRx) (hkf : f.kind = .callTx) {l : List Entry}
    (hl : l = [e, f] ∨ l = [f, e]) : callFrames l = 1 := by
  rcases hl with rfl | rfl <;> simp [callFrames, hke, hkf, h.namesLeft]

/-- Given up at either member, the second one being gone with the first (R49, R56). -/
theorem yieldEntries_callPair {a b : Entry} (h : CallPair a b s) (hx : b.state ≠ .executing) {ms : List Handle} {st : LT}
    (hp : (patternOf a.owner .call s).pending = .inPlan ms st none) (hb : ms.contains b.handle = true)
    (hr : ms.erase b.handle = [a.handle]) : forEntries yieldEntry [a, b] s = yieldEntry a s := by
  have hgone : inPlan b.handle (yieldEntry a s) = false := by
    rw [← Bool.not_eq_true, inPlan_iff, (h.yieldEntry_keeps hx hp hb hr).1]
    rintro ⟨k, hk, hh⟩
    have hkeep := (List.mem_filter.1 hk).2
    simp [hh] at hkeep
  simp [forEntries, yieldEntry.eq_def b, hgone]

/-- What tune-away leaves of the call frame of e and f: both have left, CALL_YIELD is told, and the next is due (R56). -/
structure CallFrameYielded (e f : Entry) (st : LT) (s t : State) : Prop where
  plan : t.plan = s.plan.filter (fun k => k.handle != e.handle && k.handle != f.handle)
  credit : t.credit = s.credit
  missed : t.missed = s.missed
  queues : t.queues = s.queues.upd e.owner.port (fun n => n.push
    { body := .callYield e.frameOrZero, sub := some e.owner, stamp := s.tbu.lt })
  pattern : patternOf e.owner .call t = { patternOf e.owner .call s with pending := .due st }

theorem callFrameYielded (h : CallPair e f s) (ho : e.origin = .call) (hke : e.kind = .callRx) (hkf : f.kind = .callTx)
    (hxe : e.state ≠ .executing) (hxf : f.state ≠ .executing) {st : LT}
    (hp : (patternOf e.owner .call s).pending = .inPlan [e.handle, f.handle] st none) {l : List Entry}
    (hl : l = [e, f] ∨ l = [f, e]) : CallFrameYielded e f st s (forEntries yieldEntry l s) := by
  have hne := h.handleNe
  rcases hl with rfl | rfl
  · have hb : [e.handle, f.handle].contains f.handle = true := by simp
    have hr : [e.handle, f.handle].erase f.handle = [e.handle] := by simp [hne.symm]
    rw [yieldEntries_callPair h hxf hp hb hr]
    obtain ⟨plan, credit, missed, queues, pattern⟩ := h.yieldEntry_keeps hxf hp hb hr
    rw [callFrameStart_left hke] at queues
    exact ⟨plan, credit, missed, queues, pattern⟩
  · have h' := h.symm ho
    have hp' := hp
    rw [← h.sameOwner] at hp'
    have hb : [e.handle, f.handle].contains e.handle = true := by simp
    have hr : [e.handle, f.handle].erase e.handle = [f.handle] := by simp
    rw [yieldEntries_callPair h' hxe hp' hb hr]
    obtain ⟨plan, credit, missed, queues, pattern⟩ := h'.yieldEntry_keeps hxe hp' hb hr
    rw [callFrameStart_right h ho hkf, h.sameOwner] at queues
    rw [h.sameOwner] at pattern
    refine ⟨plan.trans (List.filter_congr fun k _ => Bool.and_comm _ _), credit, missed, queues, pattern⟩

theorem isEligible_iff (k : Kind) : isEligible k = true ↔ k = .listen ∨ k = .pageRead ∨ k = .exchRx ∨ k = .exchTx := by
  simp [isEligible, or_assoc]

/-- R56: an eligible newcomer without the claim makes a call frame of the claim owner yield while credit is left. -/
theorem yieldsCalls_callPair {y : Subscription} (h : CallPair e f s) (ho : e.origin = .call) (hke : e.kind = .callRx)
    (hkf : f.kind = .callTx) (hxe : e.state ≠ .executing) (hxf : f.state ≠ .executing) (hy : s.ceu.claim = some y)
    (hm : m.owner = y.other) (hk : isEligible m.kind = true) (he : e.owner = y) (hcr : 1 ≤ s.credit.credit)
    (ha : affected [m] s = [e, f] ∨ affected [m] s = [f, e]) : yieldsCalls [m] s = true := by
  have hf : f.owner = y := h.sameOwner.trans he
  have hm' : m.owner ≠ y := hm ▸ other_ne y
  have hone := callFrames_callPair h hke hkf ha
  unfold yieldsCalls
  rw [hy]
  rcases ha with ha | ha <;> rw [ha] at hone ⊢ <;>
    simp [hm', hk, ho, h.ofCall, he, hf, hxe, hxf, hone, hcr]

theorem nextHandle_of_free {u : State} {i : Fin 48} (h : ∀ k ∈ u.plan, k.handle.slot ≠ i) :
    ∃ g, nextHandle u = some g := by
  cases hs : freeSlot u.plan with
  | none =>
    obtain ⟨k, hk, hi⟩ := freeSlot_none.1 hs i
    exact absurd hi (h k hk)
  | some j => exact ⟨_, by rw [nextHandle, hs]; rfl⟩

/-- The slot of a member that has left is free. -/
theorem CallFrameYielded.nextHandle {st : LT} {t : State} (k : CallFrameYielded e f st s t) (h : CallPair e f s) :
    ∃ g, nextHandle t = some g := by
  refine nextHandle_of_free (i := e.handle.slot) fun g hg hs => ?_
  rw [k.plan, List.mem_filter] at hg
  obtain ⟨hin, hkeep⟩ := hg
  have heq : g = e := eq_of_slot h.distinct hin h.memLeft hs
  simp [heq] at hkeep

/-- R56: admission over one call frame of the claim owner. -/
theorem admit_overCallFrame {y : Subscription} {st : LT} (ht : ltAfter m.start (ltAdd (now s) Config.prepareLead) = true)
    (hl : s.plan.length < 48) (h : CallPair e f s) (ho : e.origin = .call) (hke : e.kind = .callRx)
    (hkf : f.kind = .callTx) (hxe : e.state ≠ .executing) (hxf : f.state ≠ .executing) (hy : s.ceu.claim = some y)
    (hm : m.owner = y.other) (hk : isEligible m.kind = true) (he : e.owner = y) (hcr : 1 ≤ s.credit.credit)
    (hmeet : conflicts s.air.gRetune s.air.gTurn m e = true ∨ conflicts s.air.gRetune s.air.gTurn m f = true)
    (honly : ∀ k ∈ s.plan, conflicts s.air.gRetune s.air.gTurn m k = true → k = e ∨ k = f)
    (hp : (patternOf e.owner .call s).pending = .inPlan [e.handle, f.handle] st none) :
    ∃ (g : Handle) (t : State), CallFrameYielded e f st s t ∧
      admitEntries false [m] s = .admitted [g]
        { spendCredit 1 t with plan := insertByStart { m with handle := g } t.plan } := by
  have ha := affected_callPair h ho hmeet honly
  have hyields := callFrameYielded h ho hke hkf hxe hxf hp ha
  obtain ⟨g, hg⟩ := hyields.nextHandle h
  refine ⟨g, _, hyields, ?_⟩
  rw [admit_yieldsCalls (ms := [m]) rfl ht hl (yieldsCalls_callPair h ho hke hkf hxe hxf hy hm hk he hcr ha),
    callFrames_callPair h hke hkf ha, place_single (u := spendCredit 1 _) hg]
  rfl

end

/-! ### Tune-away: a call frame that yields itself (R57) -/

section
variable {m : Entry} {ms : List Entry} {s : State}

/-- Where no obstacle is of a call frame, the entries affected are the obstacles (R49). -/
theorem met_of_affected (hd : slotsDistinct s.plan = true) {ks : List Entry} {P : Entry → Prop}
    (hobs : ∀ e ∈ s.plan, (∃ k ∈ ks, conflicts s.air.gRetune s.air.gTurn k e = true) → e.origin ≠ .call ∧ P e) {e : Entry}
    (he : e ∈ affected ks s) : P e := by
  obtain ⟨hin, haff⟩ := List.mem_filter.1 he
  obtain ⟨o, ho, hor⟩ := List.any_eq_true.1 haff
  obtain ⟨hop, hoc⟩ := List.mem_filter.1 ho
  obtain ⟨hcall, hP⟩ := hobs o hop (List.any_eq_true.1 hoc)
  simp only [Bool.or_eq_true, Bool.and_eq_true, beq_iff_eq, hcall, false_and, or_false] at hor
  exact eq_of_handle hd hop hin hor ▸ hP

/-- R57: a call frame of the claim owner that meets only eligible entries of the other subscription yields. -/
theorem admit_yieldedCallFrame {y : Subscription} {start : LT} (ht : newcomerStart (m :: ms) = some start)
    (hafter : ltAfter start (ltAdd (now s) Config.prepareLead) = true) (hl : s.plan.length + (m :: ms).length ≤ 48)
    (hy : s.ceu.claim = some y) (hcall : ∀ k ∈ m :: ms, k.owner = y ∧ k.origin = .call)
    (hne : affected (m :: ms) s ≠ [])
    (hel : ∀ e ∈ affected (m :: ms) s, isEligible e.kind = true ∧ e.owner ≠ y ∧ e.state ≠ .executing)
    (hcr : 1 ≤ s.credit.credit) :
    admitEntries false (m :: ms) s = .yielded (notify y (.callYield m.frameOrZero) (spendCredit 1 s)) := by
  have hyc : yieldsCalls (m :: ms) s = false := by
    have hm : m.owner = y := (hcall m List.mem_cons_self).1
    simp [yieldsCalls, hy, hm]
  have hmine : ((m :: ms).all fun k => k.owner == y && k.origin == .call) = true :=
    List.all_eq_true.2 fun k hk => by simp [hcall k hk]
  have hothers : ((affected (m :: ms) s).all fun e => isEligible e.kind && e.owner != y && e.state != .executing) = true :=
    List.all_eq_true.2 fun e he => by simp [hel e he]
  have hys : yieldsSelf (m :: ms) s = true := by
    simp only [yieldsSelf, hy, hmine, hothers]
    simp [hne, hcr]
  rw [admit_yieldsSelf ht hafter hl hyc hys hy]
  rfl

end

theorem notify_spendCredit (y : Subscription) (b : NoticeBody) (n : Nat) (s : State) : notify y b (spendCredit n s) =
    giveNotice y.port { body := b, sub := some y, stamp := s.tbu.lt }
      { s with credit := { s.credit with credit := s.credit.credit - n } } := rfl

/-- Settles O23, clause by clause. -/
theorem admissionOverObstacles : Obligations.AdmissionOverObstacles := by
  refine ⟨fun m s => ?_, ?_, ?_, ?_⟩
  · intro at_
    refine ⟨fun h => admit_late rfl h, fun h hl => admit_full rfl h (Nat.lt_succ_of_le hl), ?_⟩
    intro f h hl hm hc hpart hf hu guard stop remains placed
    have hmem : f ∈ s.plan ∧ conflicts s.air.gRetune s.air.gTurn m f = true :=
      List.mem_filter.1 (hf ▸ List.mem_singleton_self f)
    obtain ⟨hin, hmeets⟩ := hmem
    have hi : inPlan f.handle s = true := inPlan_iff.2 ⟨f, hin, rfl⟩
    have hguard : ltSub m.start (guardOwed s.air.gRetune s.air.gTurn m f) = stop := by
      rw [guardOwed_eq]; rfl
    obtain ⟨hwin, hlose⟩ := admit_overObstacle h hl hm hc (affected_single hc hf hu)
    refine ⟨fun hx hp g hg => ?_, fun hx hp1 hp hr g hg => ?_, fun hx hp1 hp hr g hg => ?_, fun hno => hlose ?_⟩
    · have hb := (beats_iff m.priority f).2 ⟨hp, fun hx' => absurd hx' hx⟩
      rw [defeat_waiting hi hx] at hwin
      exact hwin hb g hg
    · have hb := (beats_iff m.priority f).2 ⟨hp, fun _ => hp1⟩
      have hcut := cutBack_truncates hmeets (hguard.symm ▸ hr)
      rw [defeat_executing hi hx, hcut, hguard] at hwin
      have hplan : modifyEntry f.handle (fun e => { e with stop := stop, cut := true }) s =
          { s with plan := s.plan.map (fun e => if e.handle = f.handle then { e with stop := stop, cut := true } else e) } := by
        simp [modifyEntry]
      rw [hplan] at hwin
      refine hwin hb g ?_
      rw [nextHandle_map _ fun e => by split <;> rfl]
      exact hg
    · have hb := (beats_iff m.priority f).2 ⟨hp, fun _ => hp1⟩
      rw [defeat_executing hi hx, cutBack_aborts hmeets (hguard.symm ▸ hr)] at hwin
      exact hwin hb g hg
    · rw [← Bool.not_eq_true, beats_iff]
      rintro ⟨hp, hx⟩
      rcases hno with hle | ⟨hxe, h2⟩
      · omega
      · have := hx hxe; omega
  · intro m n h g s hm hn hl hh hg hfree
    obtain ⟨plan, heq, rest⟩ := plan_freePair (n := n) hh hg
    refine ⟨plan, ?_, rest⟩
    rw [← heq]
    exact admit_freePair hm hn hl hh hg fun e he k hk => by
      rcases List.mem_pair.1 hk with rfl | rfl
      · exact (hfree e he).1
      · exact (hfree e he).2
  · intro m e f y st s ht hl hy hm hk he hf hd hoe hof hce hcf hke hkf hpe hpf hxe hxf hmeet honly hcr hp
    have hne : f.handle ≠ e.handle := fun heq => by
      have := eq_of_handle hd hf he heq
      rw [this, hke] at hkf
      cases hkf
    have hpair : CallPair e f s := ⟨hd, he, hf, hof.trans hoe.symm, hcf, hpe, hpf, hne⟩
    subst hoe
    obtain ⟨g, t, hy', hadm⟩ := admit_overCallFrame ht hl hpair hce hke hkf hxe hxf hy hm
      ((isEligible_iff _).2 hk) rfl hcr hmeet honly hp
    refine ⟨g, _, hadm, ?_, ?_, hy'.queues, hy'.pattern, hy'.missed⟩
    · rw [← hy'.plan]
    · rw [← hy'.credit]; rfl
  · intro m ms y start s ht hafter hl hy hcall hd hcr obstacle hsome hall
    have hel : ∀ e ∈ affected (m :: ms) s, isEligible e.kind = true ∧ e.owner ≠ y ∧ e.state ≠ .executing := by
      refine fun e => met_of_affected (P := fun e => isEligible e.kind = true ∧ e.owner ≠ y ∧ e.state ≠ .executing) hd
        fun e he ho => ?_
      obtain ⟨hown, horig, hx, hk⟩ := hall e he ho
      exact ⟨horig, (isEligible_iff _).2 hk, hown ▸ other_ne y, hx⟩
    have hne : affected (m :: ms) s ≠ [] := by
      obtain ⟨e, he, k, hk, hc⟩ := hsome
      exact List.ne_nil_of_mem (mem_affected_of_meets he hk hc)
    rw [admit_yieldedCallFrame ht hafter hl hy hcall hne hel hcr, notify_spendCredit]
    rfl

end Sys2Proof.Machine
end

section
/-! SUPPORT. Thrift and the guard test (O27). -/

namespace Sys2Proof.Machine

/-! ### A SEARCH leaves (R53) -/

/-- The notice of a SEARCH that leaves as thrift begins. -/
def thriftNotice (stamp : LT) (e : Entry) : Notice :=
  let d : WindowDetail := { handle := e.handle, kind := .search, reason := some .thrift, level := none }
  { body := if e.state = .executing then .aborted d else .displaced d, sub := some e.owner, stamp := stamp }

/-- Nothing but the plan, the generations, the sequencer and the notice queues changes. -/
def PlanAndQueues (s t : State) : Prop := t = { s with plan := t.plan, gens := t.gens, rsq := t.rsq, queues := t.queues }

theorem PlanAndQueues.refl (s : State) : PlanAndQueues s s := rfl
theorem PlanAndQueues.trans {s t u : State} (h : PlanAndQueues s t) (k : PlanAndQueues t u) : PlanAndQueues s u := by
  unfold PlanAndQueues at *; rw [k, h]

theorem PlanOnly.tells {s t : State} (h : PlanOnly s t) (q : Port) (n : Notice) : PlanAndQueues s (giveNotice q n t) := by
  unfold PlanOnly at h
  unfold PlanAndQueues
  rw [h]
  rfl

theorem offAtOnce_waiting {e : Entry} (h : e.state ≠ .executing) (s : State) : offAtOnce e s = s := by
  simp [offAtOnce, cutOff, h]

theorem planOnly_offAtOnce (e : Entry) (s : State) : PlanOnly s (offAtOnce e s) := by
  unfold offAtOnce; split
  · exact planOnly_dropReads _ _
  · exact planOnly_cutOff _ _

section
variable {e : Entry} {s : State}

theorem thriftEntry_other (h : e.kind ≠ .search) (s : State) : thriftEntry e s = s := if_neg h

theorem thriftEntry_search (hk : e.kind = .search) (ho : e.origin = .oneShot) (hp : e.partner = none) (s : State) :
    thriftEntry e s = giveNotice e.owner.port (thriftNotice s.tbu.lt e) (removeEntry e.handle (offAtOnce e s)) := by
  have hlt : now (removeEntry e.handle (offAtOnce e s)) = s.tbu.lt := by
    rw [now, tbu_of_base (base_removeEntry _ _), tbu_of_base (base_offAtOnce _ _)]
  by_cases hx : e.state = .executing
  · rw [thriftEntry, if_pos hk, if_pos hx, cutEntry, abortEntry, partnerLeaves_alone hp, tellLost_oneShot ho]
    simp [notify, notifyAt, hlt, thriftNotice, hx, windowDetail, hk]
  · rw [offAtOnce_waiting hx] at hlt ⊢
    rw [thriftEntry, if_pos hk, if_neg hx, displaceEntry, partnerLeaves_alone hp, tellLost_oneShot ho]
    simp [notify, notifyAt, hlt, thriftNotice, hx, windowDetail, hk]

theorem offWaits_thriftEntry_search (hk : e.kind = .search) (ho : e.origin = .oneShot) (hp : e.partner = none)
    (h : OffWaits (offAtOnce e s)) : OffWaits (thriftEntry e s) := by
  rw [thriftEntry_search hk ho hp]
  exact offWaits_removeEntry h

end

/-! ### Thrift begins: the SEARCH entries leave in turn -/

/-- SEARCH entries are one-shots without a partner, as every run keeps it. -/
def SearchesAlone (es : List Entry) : Prop := ∀ e ∈ es, e.kind = .search → e.origin = .oneShot ∧ e.partner = none

section
variable {es : List Entry} {s : State}

theorem planAndQueues_thriftEntries (h : SearchesAlone es) : PlanAndQueues s (forEntries thriftEntry es s) := by
  induction es generalizing s with
  | nil => exact .refl s
  | cons e es ih =>
    have hes := ih (s := thriftEntry e s) fun f hf => h f (List.mem_cons_of_mem _ hf)
    refine .trans ?_ hes
    by_cases hk : e.kind = .search
    · obtain ⟨ho, hp⟩ := h e List.mem_cons_self hk
      rw [thriftEntry_search hk ho hp]
      exact ((planOnly_offAtOnce e s).trans (planOnly_removeEntry _ _)).tells _ _
    · rw [thriftEntry_other hk]
      exact .refl s

theorem plan_thriftEntries (h : SearchesAlone es) : (forEntries thriftEntry es s).plan =
    s.plan.filter (fun g => !es.any (fun e => e.kind == .search && e.handle == g.handle)) := by
  induction es generalizing s with
  | nil => simp [forEntries]
  | cons e es ih =>
    have hes := ih (s := thriftEntry e s) fun f hf => h f (List.mem_cons_of_mem _ hf)
    rw [forEntries, hes]
    by_cases hk : e.kind = .search
    · obtain ⟨ho, hp⟩ := h e List.mem_cons_self hk
      rw [thriftEntry_search hk ho hp, giveNotice_plan, plan_removeEntry, plan_offAtOnce, List.filter_filter]
      refine List.filter_congr fun g _ => ?_
      simp [hk, bne, BEq.comm (a := g.handle), Bool.and_comm]
    · rw [thriftEntry_other hk]
      simp [beq_eq_false_iff_ne.2 hk]

theorem queues_thriftEntries (h : SearchesAlone es) : (forEntries thriftEntry es s).queues =
    (es.filter (fun e => e.kind == .search)).foldl
      (fun q e => q.upd e.owner.port (fun n => n.push (thriftNotice s.tbu.lt e))) s.queues := by
  induction es generalizing s with
  | nil => rfl
  | cons e es ih =>
    have hes := ih (s := thriftEntry e s) fun f hf => h f (List.mem_cons_of_mem _ hf)
    rw [forEntries, hes, tbu_of_base (base_thriftEntry e s)]
    by_cases hk : e.kind = .search
    · obtain ⟨ho, hp⟩ := h e List.mem_cons_self hk
      have hq : (removeEntry e.handle (offAtOnce e s)).queues = s.queues :=
        congrArg Prod.fst ((told_removeEntry e.handle _).trans (told_offAtOnce e s))
      rw [thriftEntry_search hk ho hp, giveNotice_queues, hq]
      simp [hk]
    · rw [thriftEntry_other hk]
      simp [hk]

theorem offWaits_thriftEntries (h : SearchesAlone es) (k : OffWaits s) : OffWaits (forEntries thriftEntry es s) := by
  induction es generalizing s with
  | nil => exact k
  | cons e es ih =>
    refine ih (fun f hf => h f (List.mem_cons_of_mem _ hf)) ?_
    by_cases hk : e.kind = .search
    · obtain ⟨ho, hp⟩ := h e List.mem_cons_self hk
      exact offWaits_thriftEntry_search hk ho hp (offWaits_offAtOnce k)
    · rw [thriftEntry_other hk]; exact k

theorem rest_thriftEntry {e : Entry} (h : SearchesAlone [e]) : (thriftEntry e s).rsq.rest = s.rsq.rest := by
  by_cases hk : e.kind = .search
  · obtain ⟨ho, hp⟩ := h e List.mem_cons_self hk
    rw [thriftEntry_search hk ho hp]
    exact (rest_removeEntry _ _).trans (rest_offAtOnce _ _)
  · rw [thriftEntry_other hk]

/-- An EXECUTING SEARCH brings an OFF (R53). -/
theorem offWaits_thrift_executing {e : Entry} (h : SearchesAlone es) (hl : s.rsq.link = .up) (he : e ∈ es)
    (hk : e.kind = .search) (hx : e.state = .executing) : OffWaits (forEntries thriftEntry es s) := by
  induction es generalizing s with
  | nil => cases he
  | cons f es ih =>
    have hes : SearchesAlone es := fun f hf => h f (List.mem_cons_of_mem _ hf)
    rw [forEntries]
    rcases List.mem_cons.1 he with rfl | he
    · obtain ⟨ho, hp⟩ := h e List.mem_cons_self hk
      have hgap : e.kind ≠ .measureGap := by rw [hk]; exact nofun
      exact offWaits_thriftEntries hes (offWaits_thriftEntry_search hk ho hp (offWaits_of_executing hl hx hgap))
    · have hf : SearchesAlone [f] := fun g hg => List.mem_singleton.1 hg ▸ h f List.mem_cons_self
      exact ih hes ((link_of_rest (rest_thriftEntry hf)).trans hl) he

end

/-- In a plan of distinct slots the SEARCH entries leave and nothing else does. -/
theorem plan_thriftBegins {s : State} (hd : slotsDistinct s.plan = true) (h : SearchesAlone s.plan) :
    (thriftBegins s).plan = s.plan.filter (fun e => e.kind != .search) := by
  rw [thriftBegins, plan_thriftEntries h]
  refine List.filter_congr fun g hg => ?_
  rw [bne, Bool.not_inj_iff, Bool.eq_iff_iff, List.any_eq_true]
  constructor
  · rintro ⟨e, he, hb⟩
    obtain ⟨hk, hh⟩ := Bool.and_eq_true_iff.1 hb
    exact eq_of_handle hd he hg (beq_iff_eq.1 hh) ▸ hk
  · exact fun hk => ⟨g, hg, by simpa using hk⟩

theorem thriftTest_steady {s : State} (h : thriftWanted s.csc = false ∨ s.csc.thrift = true) :
    thriftTest s = { s with csc := { s.csc with thrift := thriftWanted s.csc } } := by
  have hb : (thriftWanted s.csc && !s.csc.thrift) = false := by rcases h with h | h <;> simp [h]
  unfold thriftTest
  dsimp only
  rw [hb]
  rfl

theorem thriftTest_begins {s : State} (hw : thriftWanted s.csc = true) (ht : s.csc.thrift = false) :
    thriftTest s = thriftBegins { s with csc := { s.csc with thrift := true } } := by
  unfold thriftTest
  rw [hw, ht]
  rfl

/-! ### The guard test (R44) -/

section
variable {s : State}

/-- Every two entries of the plan keep these guards (R43). -/
def PlanKeeps (retune turn : Nat) (s : State) : Prop := s.plan.Pairwise (fun e f => conflicts retune turn e f = false)

theorem guardTest_frame (s : State) : guardTest s = { s with guards := (guardTest s).guards } := rfl

theorem guardTest_retune (h : s.air.gRetune ≤ s.guards.retune ∨ PlanKeeps s.air.gRetune s.guards.turn s) :
    (guardTest s).guards.retune = s.air.gRetune := if_pos (h.imp_right (allKeep_iff _ _ _).2)

theorem guardTest_retune_kept (hr : s.guards.retune < s.air.gRetune) (h : ¬ PlanKeeps s.air.gRetune s.guards.turn s) :
    (guardTest s).guards.retune = s.guards.retune :=
  if_neg fun hor => hor.elim (fun hle => Nat.not_le.2 hr hle) fun hk => h ((allKeep_iff _ _ _).1 hk)

theorem guardTest_turn (h : s.air.gTurn ≤ s.guards.turn ∨ PlanKeeps (guardTest s).guards.retune s.air.gTurn s) :
    (guardTest s).guards.turn = s.air.gTurn := if_pos (h.imp_right (allKeep_iff _ _ _).2)

theorem guardTest_turn_kept (ht : s.guards.turn < s.air.gTurn)
    (h : ¬ PlanKeeps (guardTest s).guards.retune s.air.gTurn s) : (guardTest s).guards.turn = s.guards.turn :=
  if_neg fun hor => hor.elim (fun hle => Nat.not_le.2 ht hle) fun hk => h ((allKeep_iff _ _ _).1 hk)

end

/-- Settles O27. -/
theorem thriftAndGuards : Obligations.ThriftAndGuards := by
  refine ⟨fun s => ?_, fun s => ⟨guardTest_frame s, guardTest_retune, guardTest_retune_kept, guardTest_turn,
    guardTest_turn_kept⟩⟩
  intro wanted flagged told
  refine ⟨thriftTest_steady, fun hw ht hd hs => ?_⟩
  have hflag : flagged = { s with csc := { s.csc with thrift := true } } := by simp only [flagged, hw]
  have hbegin : thriftTest s = forEntries thriftEntry s.plan flagged := by
    rw [thriftTest_begins hw ht, hflag]
    rfl
  have hframe : PlanAndQueues flagged (thriftTest s) := hbegin ▸ planAndQueues_thriftEntries hs
  refine ⟨hbegin ▸ plan_thriftBegins (s := flagged) hd hs, ?_, hbegin ▸ queues_thriftEntries hs, ?_, ?_⟩
  · exact csc_of_base (hbegin ▸ base_thriftBegins flagged)
  · rintro ⟨e, he, hk, hx⟩ hl
    exact hbegin ▸ offWaits_thrift_executing (s := flagged) hs hl he hk hx
  · unfold PlanAndQueues at hframe
    rw [hframe]
    exact ⟨rfl, rfl, rfl, rfl, rfl, rfl⟩

end Sys2Proof.Machine
end

section
/-! SUPPORT. Candidate frames (O28). -/

namespace Sys2Proof.Machine

/-- The frames from the current one to the first listen frame (R90). -/
def framesToListen (c : PagingConfig) (fnRef : FN) : Nat := (c.frame + 4096 - fnRef.toNat) % c.cycle

section
variable {c : PagingConfig} (fnRef : FN)

theorem pageCandidates_eq : pageCandidates c fnRef = (List.range 64).map (fun k =>
    fnRef + BitVec.ofNat 12 (framesToListen c fnRef) + BitVec.ofNat 12 (k * c.cycle)) := by
  refine List.map_congr_left fun k _ => ?_
  rw [BitVec.add_assoc, ← BitVec.ofNat_add]
  rfl

variable (hc : c.cycle = 32 ∨ c.cycle = 64 ∨ c.cycle = 128 ∨ c.cycle = 256)
include hc

theorem framesToListen_lt : framesToListen c fnRef < c.cycle :=
  Nat.mod_lt _ (by omega)

theorem toNat_framesToListen : (BitVec.ofNat 12 (framesToListen c fnRef)).toNat = framesToListen c fnRef := by
  have := framesToListen_lt fnRef hc
  rw [BitVec.toNat_ofNat]
  omega

/-- The cycle divides the 4096 frames, so that the wrap of FN does not move the listen frames (R90). -/
theorem listenFrame_mod (hf : c.frame < c.cycle) :
    (fnRef + BitVec.ofNat 12 (framesToListen c fnRef)).toNat % c.cycle = c.frame := by
  rw [BitVec.toNat_add, toNat_framesToListen fnRef hc, framesToListen]
  have := fnRef.isLt
  rcases hc with h | h | h | h <;> rw [h] at hf ⊢ <;> omega

end

/-- Settles O28. -/
theorem candidateFrames : Obligations.CandidateFrames := by
  refine ⟨fun c fnRef hc hf => ⟨_, ?_, listenFrame_mod fnRef hc hf, pageCandidates_eq fnRef⟩,
    fun _ _ => rfl, fun _ _ _ => rfl, fun _ _ => rfl⟩
  rw [add_sub_cancel_left, toNat_framesToListen fnRef hc]
  exact framesToListen_lt fnRef hc

end Sys2Proof.Machine
end

section
/-! SUPPORT. The outcome of an ended window and the end of a turn (O30). -/

namespace Sys2Proof.Machine

/-! ### The serving sample (R138) -/

section
variable {x : Subscription} {ch : Nat} {level : Int} {s : State}

theorem filterLevel_eq (k : Nat) (old : Option Int) (l : Int) : filterLevel k old l =
    match old with
    | some v => v + (l - v).tdiv (2 ^ k)
    | none => l := by
  cases old <;> rfl

theorem servingSample_onCell {c : Cell} (hs : (s.cxm.get x).serving = some c) (hc : c.channel = ch) :
    servingSample x ch level s = { s with cxm := s.cxm.set x { s.cxm.get x with
      level := some (filterLevel (s.msu.get x).settings.k (s.cxm.get x).level level) } } := by
  rw [servingSample, hs]
  exact if_pos hc

theorem servingSample_elsewhere (h : ∀ c, (s.cxm.get x).serving = some c → c.channel ≠ ch) :
    servingSample x ch level s = s := by
  unfold servingSample
  split
  · rename_i c hc
    exact if_neg (h c hc)
  · rfl

end

/-! ### What is handed on, by the origin of the window (R52, R62, R78) -/

section
variable {w : EndedWindow} {rep : Option (Int × Int)} {s : State}

theorem noticeLevel_eq (e : Entry) (rep : Option (Int × Int)) :
    noticeLevel e rep = if e.kind = .exchTx ∨ e.kind = .callTx then none else rep.map (·.1) := by
  unfold noticeLevel Entry.dir
  cases e.kind <;> simp

theorem handOn_oneShot (h : w.entry.origin = .oneShot) : handOn w rep s =
    notifyAt w.entry.owner w.stamp (endNotice w.cause (windowDetail w.entry none (noticeLevel w.entry rep))) s := by
  unfold handOn
  dsimp only
  rw [h]

theorem handOn_page (h : w.entry.origin = .page) : handOn w rep s =
    memberGone w.entry.owner .page w.entry.handle none (judgeListen w.entry (rep.map (·.2))
      (match rep with
       | some (l, _) => servingSample w.entry.owner w.entry.channel l s
       | none => s)) := by
  unfold handOn
  dsimp only
  rw [h] <;> cases rep <;> rfl

theorem handOn_pageRead {l m : Int} (h : w.entry.origin = .pageRead) (hr : rep = some (l, m)) :
    handOn w rep s = readDone w.entry l s := by
  unfold handOn
  dsimp only
  rw [h, hr]

theorem handOn_call (h : w.entry.origin = .call) : handOn w rep s =
    memberGone w.entry.owner .call w.entry.handle none (if w.entry.kind = .callRx then
      (match rep with
       | some (l, _) => servingSample w.entry.owner w.entry.channel l s
       | none => s) else s) := by
  unfold handOn
  dsimp only
  rw [h]
  cases rep with
  | none => dsimp only; rw [ite_self]
  | some r => rfl

theorem handOn_meas (h : w.entry.origin = .meas) : handOn w rep s =
    memberGone w.entry.owner .meas w.entry.handle none (dropSelection w.entry.owner w.entry.handle s) := by
  unfold handOn
  dsimp only
  rw [h]

theorem handOn_sync {l m : Int} (h : w.entry.origin = .sync) (hr : rep = some (l, m)) :
    handOn w rep s = notify w.entry.owner (.syncCompleted l) s := by
  unfold handOn
  dsimp only
  rw [h, hr]

theorem failEnded_page (h : w.entry.origin = .page) : failEnded w s = handOn w none s := by
  rw [failEnded, h]

theorem failEnded_oneShot (h : w.entry.origin = .oneShot) : failEnded w s =
    notifyAt w.entry.owner w.stamp (.aborted (windowDetail w.entry (some .radio) none)) s := by
  rw [failEnded, h]

theorem failEnded_other (hp : w.entry.origin ≠ .page) (ho : w.entry.origin ≠ .oneShot) :
    failEnded w s = tellLost w.entry .aborted .radio s := by
  unfold failEnded
  cases h : w.entry.origin with
  | page => exact absurd h hp
  | oneShot => exact absurd h ho
  | _ => rfl

/-- R96: with its read record in hand, READ_DONE opens the result window and uses the record up. -/
theorem readDone_eq {e : Entry} {r : ReadRecord} {level : Int} (hr : (s.pgu.get e.owner).read = some r)
    (hh : r.handle = e.handle) : readDone e level s =
      giveNotice e.owner.port { body := .readDone level r.readFrame, sub := some e.owner, stamp := s.tbu.lt }
        { s with pgu := s.pgu.set e.owner { s.pgu.get e.owner with
            read := none, window := some { readFrame := r.readFrame, level := level, age := 0 } } } := by
  have hf : readFrameOf e s = r.readFrame := by simp [readFrameOf, hr, hh]
  have hgone : ((s.pgu.get e.owner).read.filter fun r => r.handle != e.handle) = none := by simp [hr, hh]
  rw [readDone, hf]
  simp only [dropRead, updPgu, PerSub.upd, PerSub.get_set_self, notify, notifyAt, giveNotice, hgone, now]
  cases e.owner <;> rfl

end

/-! ### The end of a turn (R49, R62) -/

section
variable {x : Subscription} {k : Pat} {h g : Handle} {loss : Option LossDetail} {s : State}

theorem erase_self : [h].erase h = [] := by simp

theorem erase_pair {ms : List Handle} (hm : ms = [h, g] ∨ ms = [g, h]) (hne : g ≠ h) : ms.erase h = [g] := by
  rcases hm with rfl | rfl <;> simp [hne]

theorem contains_pair {ms : List Handle} (hm : ms = [h, g] ∨ ms = [g, h]) : ms.contains h = true := by
  rcases hm with rfl | rfl <;> simp

/-- The last member of an occurrence ends its turn. -/
theorem memberGone_last {st : LT} {held : Option LossDetail} (hp : (patternOf x k s).pending = .inPlan [h] st held) :
    memberGone x k h loss s =
      updPattern x k (fun p => { p with pending := .due st }) (tellLoss x (firstLoss held loss) s) := by
  have hc : [h].contains h = true := by simp
  simp only [memberGone, hp, hc, erase_self]
  rfl

/-- A member gone from an occurrence of which another is left. -/
theorem memberGone_left {ms : List Handle} {st : LT} {held : Option LossDetail}
    (hp : (patternOf x k s).pending = .inPlan ms st held) (hm : ms = [h, g] ∨ ms = [g, h]) (hne : g ≠ h) :
    memberGone x k h loss s =
      updPattern x k (fun p => { p with pending := .inPlan [g] st (firstLoss held loss) }) s := by
  simp only [memberGone, hp, contains_pair hm, erase_pair hm hne]
  rfl

/-- The pattern does not wait for this entry. -/
theorem memberGone_runOn (hp : ∀ ms st held, (patternOf x k s).pending = .inPlan ms st held → h ∉ ms) :
    memberGone x k h loss s = runOnGone x h loss s := by
  unfold memberGone
  split
  · rename_i ms st held hpend
    rw [if_neg]
    simpa using hp ms st held hpend
  · rfl

theorem runOnGone_none (hn : ∀ r ∈ (s.patterns.get x).runOn, h ∉ r.members) : runOnGone x h loss s = s := by
  have hf : (s.patterns.get x).runOn.find? (fun r => r.members.contains h) = none :=
    List.find?_eq_none.2 fun r hr => by simpa using hn r hr
  simp only [runOnGone, hf]

/-- The last member of an occurrence that runs on without its pattern. -/
theorem runOnGone_last {held : Option LossDetail}
    (hf : (s.patterns.get x).runOn.find? (fun r => r.members.contains h) = some { members := [h], loss := held }) :
    runOnGone x h loss s = tellLoss x (firstLoss held loss)
      (setRunOn x ((s.patterns.get x).runOn.filter (fun r => !r.members.contains h)) s) := by
  simp only [runOnGone, hf, erase_self]
  rfl

theorem runOnGone_left {ms : List Handle} {held : Option LossDetail} (hm : ms = [h, g] ∨ ms = [g, h]) (hne : g ≠ h)
    (hf : (s.patterns.get x).runOn.find? (fun r => r.members.contains h) = some { members := ms, loss := held }) :
    runOnGone x h loss s = setRunOn x ((s.patterns.get x).runOn.filter (fun r => !r.members.contains h) ++
      [{ members := [g], loss := firstLoss held loss }]) s := by
  simp only [runOnGone, hf, erase_pair hm hne]
  rfl

theorem firstLoss_eq (held loss : Option LossDetail) : firstLoss held loss =
    match held with
    | some d => some d
    | none => loss := by
  cases held <;> rfl

theorem tellLoss_eq (x : Subscription) (l : Option LossDetail) (s : State) : tellLoss x l s =
    match l with
    | some d => giveNotice x.port { body := .patternLost d, sub := some x, stamp := s.tbu.lt } s
    | none => s := by
  cases l <;> rfl

end

/-- Settles O30: the serving sample, the outcome by origin, and the end of a turn. -/
theorem outcomeOfAWindow : Obligations.OutcomeOfAWindow := by
  refine ⟨fun x ch level s => ?_, fun w rep s => ?_, fun x k h loss s => ?_⟩
  · intro c l
    refine ⟨fun k hk hch => ?_, servingSample_elsewhere⟩
    rw [servingSample_onCell hk hch, filterLevel_eq] <;> rfl
  · intro e x sampled tell
    refine ⟨fun h => ?_, handOn_page, fun l m r h hrep hr hh => ?_, handOn_call, handOn_meas, fun l m h => handOn_sync h,
      failEnded_page, failEnded_oneShot, failEnded_other⟩
    · rw [handOn_oneShot h, noticeLevel_eq]
      cases w.cause <;> rfl
    · rw [handOn_pageRead h hrep, readDone_eq hr hh]
  · intro first told
    have htold : ∀ held u, u.tbu.lt = s.tbu.lt → tellLoss x (firstLoss held loss) u = told held u := by
      intro held u hu
      rw [tellLoss_eq, firstLoss_eq, hu] <;> rfl
    have hfirst : ∀ held, first held = firstLoss held loss := fun held => (firstLoss_eq held loss).symm
    refine ⟨fun st held hp => ?_, fun g st held hp hne => ?_, fun hp => ?_⟩
    · rw [memberGone_last hp, htold held s rfl]
    · rw [hfirst]
      exact hp.elim (fun hp => memberGone_left hp (.inl rfl) hne) fun hp => memberGone_left hp (.inr rfl) hne
    · intro on l others
      rw [memberGone_runOn hp]
      refine ⟨runOnGone_none, fun held hf => ?_, fun g ms held hm hne hf => ?_⟩
      · exact (runOnGone_last hf).trans (htold held _ rfl)
      · rw [hfirst]
        exact runOnGone_left hm hne hf

end Sys2Proof.Machine
end

section
/-! SUPPORT. CANCEL (O25): its reply, test by test. -/

namespace Sys2Proof.Machine

section
variable {x : Subscription} {slot gen : BitVec 8} {s : State}

theorem cancelReply_badSlot (h : 48 ≤ slot.toNat) : cancelReply x slot gen s = .refuse .badValue := if_pos h

theorem entryNamed_none (h : ∀ e ∈ s.plan, ¬ (e.handle.slot.val = slot.toNat ∧ e.handle.gen = gen)) :
    entryNamed slot gen s = none := List.find?_eq_none.2 fun e he => by simpa using h e he

theorem cancelReply_stale (h : slot.toNat < 48) (hn : entryNamed slot gen s = none) :
    cancelReply x slot gen s = .refuse .staleHandle := by
  rw [cancelReply, if_neg (Nat.not_le.2 h), hn]

theorem cancelReply_found {e : Entry} (h : slot.toNat < 48) (hf : entryNamed slot gen s = some e) :
    cancelReply x slot gen s =
      if e.owner ≠ x ∨ e.origin ≠ .oneShot then .refuse .notOwner else .accept .ok .empty (cancelEntry e s) := by
  rw [cancelReply, if_neg (Nat.not_le.2 h), hf]

end

/-- Settles O25. -/
theorem cancelEndsTheOneShot : Obligations.CancelEndsTheOneShot := by
  intro x slot gen tag s htag
  refine ⟨fun h => serve_refuse htag (cancelReply_badSlot h),
    fun h hn => serve_refuse htag (cancelReply_stale h (entryNamed_none hn)), fun e h hf => ?_⟩
  have hr := cancelReply_found (x := x) h hf
  by_cases hno : e.owner ≠ x ∨ e.origin ≠ .oneShot
  · rw [if_pos hno] at hr ⊢
    exact serve_refuse htag hr
  · rw [if_neg hno] at hr ⊢
    refine (serve_accept htag hr).trans ?_
    unfold cancelEntry
    by_cases hx : e.state = .executing
    · rw [if_pos hx, if_pos hx]
      rfl
    · rw [if_neg hx, if_neg hx]

end Sys2Proof.Machine
end

section
/-! SUPPORT. The power and policy requests (O45): given values, and SET_POLICY field by field. -/

namespace Sys2Proof.Machine

/-! ### Given values (section 10-7) -/

theorem clampNat_eq {lo hi : Nat} (hle : lo ≤ hi) (v : Nat) : clampNat lo hi v = max lo (min v hi) := by
  unfold clampNat
  split
  · omega
  · split <;> omega

theorem givenOr_eq {lo hi : Nat} (hle : lo ≤ hi) (v : Option Nat) (old : Nat) :
    givenOr lo hi v old = (v.map (fun n => max lo (min n hi))).getD old := by
  cases v with
  | none => rfl
  | some n => exact clampNat_eq hle n

theorem isClamped_iff {lo hi : Nat} (hle : lo ≤ hi) (v : Option Nat) :
    isClamped lo hi v = true ↔ ∃ n, v = some n ∧ (n < lo ∨ hi < n) := by
  cases v with
  | none => simp [isClamped]
  | some n =>
    simp only [isClamped, clampNat_eq hle, bne_iff_ne, Option.some.injEq, exists_eq_left']
    omega

theorem codedOk_iff {α : Type} (f : Coded α) : codedOk f = true ↔ f ≠ .unknown := by cases f <;> simp [codedOk]

theorem expOk_iff (c : Option Nat) : expOk c = true ↔ ∀ n, c = some n → 8 ≤ n ∧ n ≤ 13 := by
  cases c <;> simp [expOk]

/-! ### SET_POLICY (R175) -/

section
variable (b : PolicyBody)

theorem policyOk_iff : policyOk b = true ↔
    b.slumber ≠ .unknown ∧ b.thrift ≠ .unknown ∧ b.anchor ≠ .unknown ∧ ∀ c, b.c = some c → 8 ≤ c ∧ c ≤ 13 := by
  simp only [policyOk, Bool.and_eq_true, codedOk_iff, expOk_iff, and_assoc]

/-- A value lies outside its range. -/
def Outside (lo hi : Nat) (v : Option Nat) : Prop := ∃ n, v = some n ∧ (n < lo ∨ hi < n)

theorem policyClamped_iff : policyClamped b = true ↔
    Outside 0 8 b.creditMax ∨ Outside 32 1024 b.refillFrames ∨ Outside 0 26000 b.gRetune ∨ Outside 0 26000 b.gTurn ∨
    Outside 1 600 b.interval ∨ Outside 1 255 b.settle := by
  have hguard : Config.maxGuard = 26000 := rfl
  simp only [policyClamped, hguard, Bool.or_eq_true, or_assoc, Outside]
  rw [isClamped_iff (by decide), isClamped_iff (by decide), isClamped_iff (by decide), isClamped_iff (by decide),
    isClamped_iff (by decide), isClamped_iff (by decide)]

theorem policyAir_eq (a : AirSettings) : policyAir b a =
    { creditMax := (b.creditMax.map (fun n => max 0 (min n 8))).getD a.creditMax,
      refillFrames := (b.refillFrames.map (fun n => max 32 (min n 1024))).getD a.refillFrames,
      gRetune := (b.gRetune.map (fun n => max 0 (min n 26000))).getD a.gRetune,
      gTurn := (b.gTurn.map (fun n => max 0 (min n 26000))).getD a.gTurn } := by
  have hguard : Config.maxGuard = 26000 := rfl
  simp only [policyAir, hguard]
  rw [givenOr_eq (by decide), givenOr_eq (by decide), givenOr_eq (by decide), givenOr_eq (by decide)]

theorem changeC_same {given : Option Nat} {c : Csc} (h : given = none ∨ given = some c.c) : changeC given c = c := by
  rcases h with rfl | rfl
  · rfl
  · exact if_pos rfl

theorem changeC_new {given : Option Nat} {c : Csc} (h : ¬ (given = none ∨ given = some c.c)) : changeC given c =
    { c with c := given.getD 0, valid := false, suspect := false, f := 0, rescheduled := false, cal := .waiting,
             calDue := none } := by
  cases given with
  | none => exact absurd (.inl rfl) h
  | some v => exact if_neg fun hv => h (.inr (by rw [hv]))

theorem interval_changeC (given : Option Nat) (c : Csc) : (changeC given c).interval = c.interval := by
  unfold changeC
  (repeat' split) <;> rfl

/-- A new interval moves a calibration due to the last calibration's end, or makes it due now (R175). -/
theorem changeInterval_eq (given : Option Nat) (nw : LT) (c : Csc) :
    let i := givenOr 1 600 given c.interval
    changeInterval given nw c =
      match given, c.calDue, c.lastCalEnd with
      | some _, some _, some e =>
        if ltReached nw (e + BitVec.ofNat 48 (i * 26000000)) = true then
          { c with interval := i, calDue := none, cal := if c.cal = .idle then .waiting else c.cal }
        else { c with interval := i, calDue := some (e + BitVec.ofNat 48 (i * 26000000)) }
      | _, _, _ => { c with interval := i } := by
  cases given with
  | none => rfl
  | some v =>
    cases hd : c.calDue <;> cases he : c.lastCalEnd <;> simp only [changeInterval, hd, he] <;> rfl

end

theorem calDueNow_of {s : State} {d : LT} (hr : ltRuns s = true) (hd : s.csc.calDue = some d)
    (h : ltReached s.tbu.lt d = true) : calDueNow s = true := by
  simp only [calDueNow, hr, hd, reachedBy, Bool.true_and]
  exact h

theorem setPolicyReply_of {b : PolicyBody} {s : State} (h : policyOk b = true) :
    setPolicyReply b s = .accept (okOr (policyClamped b)) .empty (setPolicy b s) := if_pos h

/-- Settles O45: the reads and votes by their replies, SET_POLICY field by field. -/
theorem powerAndPolicyRequests : Obligations.PowerAndPolicyRequests := by
  refine ⟨fun tag s => ?_, fun b tag s htag => ?_⟩
  · intro c p phase view
    refine ⟨fun h => serve_quiet h ?_, fun h => serve_quiet h rfl, fun h => serve_accept h rfl,
      fun q h => serve_quiet h rfl, fun q h => serve_quiet h rfl, fun d hr hd h => ?_⟩
    · have hphase : phase = calPhase s.csc.cal := by cases hc : s.csc.cal <;> simp only [phase, c, hc] <;> rfl
      simp only [view, hphase]
      rfl
    · exact if_pos (calDueNow_of hr hd h)
  · intro ok outside clampedValue given flag anchor air flags exponent interval due timed t
    have hok : policyOk b = true ↔ ok := policyOk_iff b
    have hclamped : policyClamped b = true ↔ clampedValue := policyClamped_iff b
    have hflag : ∀ v old, codedOr v old = flag v old := fun v old => by cases v <;> rfl
    have hanchor : codedOr b.anchor s.tbu.prefAnchor = anchor := by
      simp only [anchor]
      cases b.anchor <;> rfl
    have hair : policyAir b s.air = air := policyAir_eq b s.air
    have hflags : policyFlags b s.csc = flags := by
      simp only [policyFlags, hflag, givenOr_eq (lo := 1) (hi := 255) (by decide)]
      rfl
    have hexp : changeC b.c flags = exponent := by
      by_cases hc : b.c = none ∨ b.c = some s.csc.c
      · exact (changeC_same (c := flags) hc).trans (if_pos hc).symm
      · exact (changeC_new (c := flags) hc).trans (if_neg hc).symm
    have hheld : exponent.interval = s.csc.interval := by
      rw [← hexp, ← hflags]
      exact interval_changeC _ _
    have hinterval : givenOr 1 600 b.interval exponent.interval = interval := by
      rw [hheld]
      exact givenOr_eq (by decide) _ _
    have htimed : policyCsc b s.tbu.lt s.csc = timed := by
      rw [policyCsc, hflags, hexp, changeInterval_eq, hinterval] <;> rfl
    have hset : setPolicy b s = thriftTest (guardTest t) := by
      simp only [setPolicy, hair, hanchor, now, htimed]
      rfl
    have hreply : ok → setPolicyReply b s = .accept (okOr (policyClamped b)) .empty (thriftTest (guardTest t)) :=
      fun h => hset ▸ setPolicyReply_of (hok.2 h)
    refine ⟨fun h => serve_refuse htag (if_neg fun ho => h (hok.1 ho)), fun h hc => serve_accept htag ?_,
      fun h hc => serve_accept htag ?_⟩
    · rw [hreply h, hclamped.2 hc]
      rfl
    · rw [hreply h, Bool.eq_false_iff.2 fun hcl => hc (hclamped.1 hcl)]
      rfl

end Sys2Proof.Machine
end

section
/-! SUPPORT. Lost occurrences and the activity need (O52). -/

namespace Sys2Proof.Machine

/-! ### Would-be ends (R61, R62) -/

/-- A pattern whose lost occurrence, if it has one, is discarded where its would-be end is reached. -/
def endedPattern (lt : LT) (p : Pattern) : Pattern :=
  match p.pending with
  | .lost st en => if ltReached lt en = true then { p with pending := .due st } else p
  | _ => p

section
variable {x : Subscription} {k : Pat} {s : State}

theorem updPattern_fixed {f : Pattern → Pattern} (h : f (patternOf x k s) = patternOf x k s) : updPattern x k f s = s := by
  have hset : (s.patterns.get x).set k (f ((s.patterns.get x).get k)) = s.patterns.get x := by
    have h' : f ((s.patterns.get x).get k) = (s.patterns.get x).get k := h
    rw [h']
    cases k <;> rfl
  simp only [updPattern, PerSub.upd, hset]
  cases x <;> rfl

theorem updPattern_congr {f g : Pattern → Pattern} (h : f (patternOf x k s) = g (patternOf x k s)) :
    updPattern x k f s = updPattern x k g s := by
  have h' : f ((s.patterns.get x).get k) = g ((s.patterns.get x).get k) := h
  simp only [updPattern, PerSub.upd, h']

theorem endLost_eq (hr : ltRuns s = true) (x : Subscription) (k : Pat) :
    endLost x k s = updPattern x k (endedPattern s.tbu.lt) s := by
  cases hp : (patternOf x k s).pending with
  | lost st en =>
    by_cases hen : ltReached s.tbu.lt en = true
    · have hdue : lostDue x k s = some st := by simp [lostDue, hp, hr, now, hen]
      rw [endLost, hdue]
      refine updPattern_congr ?_
      simp [endedPattern, hp, hen]
    · have hdue : lostDue x k s = none := by simp [lostDue, hp, now, hen]
      rw [endLost, hdue, updPattern_fixed]
      simp [endedPattern, hp, hen]
  | _ =>
    have hdue : lostDue x k s = none := by simp [lostDue, hp]
    rw [endLost, hdue, updPattern_fixed]
    simp [endedPattern, hp]

/-- The patterns of a subscription after the would-be ends reached at this LT. -/
def endedPatterns (lt : LT) (p : Patterns) : Patterns :=
  { p with page := endedPattern lt p.page, call := endedPattern lt p.call, meas := endedPattern lt p.meas }

theorem endLost_sub (hr : ltRuns s = true) (x : Subscription) :
    endLost x .meas (endLost x .call (endLost x .page s)) =
      { s with patterns := s.patterns.upd x (endedPatterns s.tbu.lt) } := by
  rw [endLost_eq hr, endLost_eq (s := updPattern x .page (endedPattern s.tbu.lt) s) hr,
    endLost_eq (s := updPattern x .call _ (updPattern x .page (endedPattern s.tbu.lt) s)) hr]
  cases x <;> rfl

/-- Every would-be end reached at this LT is taken together (log 39). -/
theorem endAllLost_eq (hr : ltRuns s = true) : endAllLost s = { s with patterns :=
    { a := endedPatterns s.tbu.lt s.patterns.a, b := endedPatterns s.tbu.lt s.patterns.b } } := by
  rw [endAllLost, endLost_sub hr, endLost_sub (s := { s with patterns := s.patterns.upd .A (endedPatterns s.tbu.lt) }) hr]
  rfl

end

/-! ### The activity need (R165) -/

theorem activityDue_of {s : State} (hr : ltRuns s = true) (hd : s.power.state = .doze) (hw : wantsActive s = true) :
    activityDue s = true := by simp [activityDue, hr, hd, hw]

theorem choosePower_wakes {s : State} (hr : ltRuns s = true) (hd : s.power.state = .doze) (hw : wantsActive s = true) :
    choosePower s = demand (.powerUp false false)
      { s with power := { s.power with state := .active, entry := none, wakeTarget := none } } := by
  rw [choosePower, if_pos hr, if_pos hw, if_pos hd]
  rfl

/-- Settles O52. -/
theorem lostOccurrencesAndActivity : Obligations.LostOccurrencesAndActivity := by
  refine fun s hr => ⟨fun x k start stop hp hstop => ?_, fun hd hneed => ?_⟩
  · intro ended all
    have hdue : (lostDue x k s).isSome = true := by simp [lostDue, hp, hr, now, hstop]
    have hended : ∀ p, endedPattern s.tbu.lt p = ended p := fun p => by
      unfold endedPattern
      cases hq : p.pending <;> simp only [ended, hq]
    refine (if_pos hdue).trans ?_
    rw [endAllLost_eq hr]
    simp only [endedPatterns, hended]
    rfl
  · have hw := (wantsActive_iff s).2 hneed
    refine (if_pos (activityDue_of hr hd hw)).trans ?_
    rw [choosePower_wakes hr hd hw]
    rfl

end Sys2Proof.Machine
end

section
/-! SUPPORT. What no treatment of a fault touches: the sequencer but for its waiting commands and the gap's windows, and the
power decision. -/

namespace Sys2Proof.Machine

/-- The sequencer but for the waiting commands and the gap's windows, with the power items. -/
def seqPower (s : State) : Rsq × Power := (s.rsq.rest, s.power)

theorem link_of_seqPower {s t : State} (h : seqPower t = seqPower s) : t.rsq.link = s.rsq.link :=
  link_of_rest (Prod.mk.inj h).1
theorem faults_of_seqPower {s t : State} (h : seqPower t = seqPower s) : t.rsq.faults = s.rsq.faults := by
  have hf : t.rsq.rest.faults = s.rsq.rest.faults := congrArg Rsq.faults (Prod.mk.inj h).1
  exact hf
theorem ended_of_seqPower {s t : State} (h : seqPower t = seqPower s) : t.rsq.ended = s.rsq.ended := by
  have he : t.rsq.rest.ended = s.rsq.rest.ended := congrArg Rsq.ended (Prod.mk.inj h).1
  exact he
theorem power_of_seqPower {s t : State} (h : seqPower t = seqPower s) : t.power = s.power := (Prod.mk.inj h).2

section
variable (s : State)

/-! ### Notices, patterns and records -/

@[simp] theorem seqPower_giveNotice (q : Port) (n : Notice) : seqPower (giveNotice q n s) = seqPower s := rfl
@[simp] theorem seqPower_notifyAt (x : Subscription) (t : LT) (b : NoticeBody) : seqPower (notifyAt x t b s) = seqPower s := rfl
@[simp] theorem seqPower_notify (x : Subscription) (b : NoticeBody) : seqPower (notify x b s) = seqPower s := rfl
@[simp] theorem seqPower_pageMissed (x : Subscription) (k : Kind) (f : FN) (r : Reason) :
    seqPower (pageMissed x k f r s) = seqPower s := rfl
@[simp] theorem seqPower_updPattern (x : Subscription) (k : Pat) (f : Pattern → Pattern) :
    seqPower (updPattern x k f s) = seqPower s := rfl
@[simp] theorem seqPower_setRunOn (x : Subscription) (l : List RunOn) : seqPower (setRunOn x l s) = seqPower s := rfl
@[simp] theorem seqPower_updPgu (x : Subscription) (f : Pgu → Pgu) : seqPower (updPgu x f s) = seqPower s := rfl
@[simp] theorem seqPower_updCtx (x : Subscription) (f : Context → Context) : seqPower (updCtx x f s) = seqPower s := rfl
@[simp] theorem seqPower_dropListen (x : Subscription) (h : Handle) : seqPower (dropListen x h s) = seqPower s := rfl
@[simp] theorem seqPower_dropRead (x : Subscription) (h : Handle) : seqPower (dropRead x h s) = seqPower s := rfl
@[simp] theorem seqPower_dropSelection (x : Subscription) (h : Handle) : seqPower (dropSelection x h s) = seqPower s := rfl

/-! ### Entries that leave -/

@[simp] theorem seqPower_modifyEntry (h : Handle) (f : Entry → Entry) : seqPower (modifyEntry h f s) = seqPower s := rfl
@[simp] theorem seqPower_removeEntry (h : Handle) : seqPower (removeEntry h s) = seqPower s := by
  unfold removeEntry; split <;> rfl
@[simp] theorem seqPower_demand (c : Cmd) : seqPower (demand c s) = seqPower s := by
  unfold demand; split <;> rfl
@[simp] theorem seqPower_dropReads (h : Handle) : seqPower (dropReads h s) = seqPower s := rfl
@[simp] theorem seqPower_cutOff (e : Entry) : seqPower (cutOff e s) = seqPower s := by
  unfold cutOff; split <;> simp
@[simp] theorem seqPower_offAtOnce (e : Entry) : seqPower (offAtOnce e s) = seqPower s := by
  unfold offAtOnce; split <;> simp
@[simp] theorem seqPower_tellLoss (x : Subscription) (l : Option LossDetail) : seqPower (tellLoss x l s) = seqPower s := by
  cases l <;> rfl
@[simp] theorem seqPower_runOnGone (x : Subscription) (h : Handle) (l : Option LossDetail) :
    seqPower (runOnGone x h l s) = seqPower s := by
  unfold runOnGone; dsimp only; (repeat' split) <;> simp
@[simp] theorem seqPower_memberGone (x : Subscription) (k : Pat) (h : Handle) (l : Option LossDetail) :
    seqPower (memberGone x k h l s) = seqPower s := by
  unfold memberGone; dsimp only; (repeat' split) <;> simp
@[simp] theorem seqPower_tellLost (e : Entry) (w : LossKind) (r : Reason) : seqPower (tellLost e w r s) = seqPower s := by
  unfold tellLost; (repeat' split) <;> simp
@[simp] theorem seqPower_partnerLeaves (e : Entry) : seqPower (partnerLeaves e s) = seqPower s := by
  unfold partnerLeaves; (repeat' split) <;> simp
@[simp] theorem seqPower_abortEntry (e : Entry) (r : Reason) : seqPower (abortEntry e r s) = seqPower s := by
  simp [abortEntry]
@[simp] theorem seqPower_displaceEntry (e : Entry) (r : Reason) : seqPower (displaceEntry e r s) = seqPower s := by
  simp [displaceEntry]
@[simp] theorem seqPower_cutEntry (e : Entry) (r : Reason) : seqPower (cutEntry e r s) = seqPower s := by
  simp [cutEntry]

theorem seqPower_forEntries {f : Entry → State → State} (hf : ∀ e s, seqPower (f e s) = seqPower s) (es : List Entry)
    (s : State) : seqPower (forEntries f es s) = seqPower s := by
  induction es generalizing s with
  | nil => rfl
  | cons e es ih => rw [forEntries, ih, hf]

/-! ### Admission -/

@[simp] theorem seqPower_yieldTurn (x : Subscription) (h : Handle) : seqPower (yieldTurn x h s) = seqPower s := by
  unfold yieldTurn; (repeat' split) <;> simp
@[simp] theorem seqPower_yieldEntry (e : Entry) : seqPower (yieldEntry e s) = seqPower s := by
  unfold yieldEntry; split <;> simp
@[simp] theorem seqPower_cutBack (ms : List Entry) (e : Entry) : seqPower (cutBack ms e s) = seqPower s := by
  unfold cutBack; (repeat' split) <;> simp
@[simp] theorem seqPower_defeat (ms : List Entry) (e : Entry) : seqPower (defeat ms e s) = seqPower s := by
  unfold defeat; (repeat' split) <;> simp
@[simp] theorem seqPower_spendCredit (n : Nat) : seqPower (spendCredit n s) = seqPower s := rfl
@[simp] theorem seqPower_placeOne (m : Bool) (e : Entry) : seqPower (placeOne m e s).2 = seqPower s := by
  unfold placeOne; (repeat' split) <;> rfl
@[simp] theorem seqPower_linkPartners (h g : Handle) : seqPower (linkPartners h g s) = seqPower s := rfl
@[simp] theorem seqPower_place (m : Bool) (es : List Entry) : seqPower (place m es s).2 = seqPower s := by
  unfold place; (repeat' split) <;> simp

theorem seqPower_admit (m : Bool) (ms : List Entry) : seqPower ((admitEntries m ms s).after s) = seqPower s := by
  unfold admitEntries; (repeat' split) <;> simp [Verdict.after, seqPower_forEntries]

end

theorem seqPower_admitted {m : Bool} {ms : List Entry} {s t : State} {hs : List Handle}
    (h : admitEntries m ms s = .admitted hs t) : seqPower t = seqPower s := by
  have ha := seqPower_admit s m ms; rwa [h] at ha
theorem seqPower_yielded {m : Bool} {ms : List Entry} {s t : State} (h : admitEntries m ms s = .yielded t) :
    seqPower t = seqPower s := by
  have ha := seqPower_admit s m ms; rwa [h] at ha

/-! ### Outcomes -/

section
variable (s : State)

@[simp] theorem seqPower_offerPageRead (x : Subscription) (r : ListenRecord) :
    seqPower (offerPageRead x r s) = seqPower s := by
  unfold offerPageRead; dsimp only; (repeat' split)
  · rename_i h; exact (seqPower_updPgu _ _ _).trans (seqPower_admitted h)
  · rename_i h; exact seqPower_admitted h
  · rfl
  · rename_i h; exact seqPower_yielded h
  · rfl
  · rfl
@[simp] theorem seqPower_pageFound (x : Subscription) (r : ListenRecord) (d : Decision) (m : Option Int) :
    seqPower (pageFound x r d m s) = seqPower s := by
  unfold pageFound; dsimp only; split <;> simp
@[simp] theorem seqPower_judgeListen (e : Entry) (m : Option Int) : seqPower (judgeListen e m s) = seqPower s := by
  unfold judgeListen; dsimp only; (repeat' split) <;> simp
@[simp] theorem seqPower_servingSample (x : Subscription) (ch : Nat) (l : Int) :
    seqPower (servingSample x ch l s) = seqPower s := by
  unfold servingSample; (repeat' split) <;> rfl
@[simp] theorem seqPower_readDone (e : Entry) (l : Int) : seqPower (readDone e l s) = seqPower s := rfl
@[simp] theorem seqPower_handOn (w : EndedWindow) (rep : Option (Int × Int)) : seqPower (handOn w rep s) = seqPower s := by
  unfold handOn; dsimp only; (repeat' split) <;> simp
@[simp] theorem seqPower_failEnded (w : EndedWindow) : seqPower (failEnded w s) = seqPower s := by
  unfold failEnded; (repeat' split) <;> simp

theorem seqPower_forWindows {f : EndedWindow → State → State} (hf : ∀ w s, seqPower (f w s) = seqPower s)
    (ws : List EndedWindow) (s : State) : seqPower (forWindows f ws s) = seqPower s := by
  induction ws generalizing s with
  | nil => rfl
  | cons w ws ih => rw [forWindows, ih, hf]

end

/-! ### The treatment of a fault (R79) -/

section
variable (s : State)

/-- No treatment of a fault counts another, or takes the link down by itself. -/
def Unmoved (s t : State) : Prop := t.rsq.link = s.rsq.link ∧ t.rsq.faults = s.rsq.faults

theorem unmoved_of_seqPower {s t : State} (h : seqPower t = seqPower s) : Unmoved s t :=
  ⟨link_of_seqPower h, faults_of_seqPower h⟩

theorem unmoved_abortRadio (h : Handle) : Unmoved s (abortRadio h s) := by
  refine unmoved_of_seqPower ?_
  unfold abortRadio; split <;> simp
theorem unmoved_closeEnded (h : Handle) : Unmoved s (closeEnded h s) := by
  unfold closeEnded; split
  · rename_i w _
    exact unmoved_of_seqPower (s := dropEnded h s) (seqPower_failEnded _ w)
  · exact ⟨rfl, rfl⟩
theorem unmoved_offFaulted (h : Handle) : Unmoved s (offFaulted h s) := by
  unfold offFaulted; split
  · rename_i w _
    split
    · exact unmoved_of_seqPower (s := dropEnded h s) (seqPower_handOn _ w none)
    · exact unmoved_of_seqPower (s := dropEnded h s) (seqPower_failEnded _ w)
  · exact ⟨rfl, rfl⟩
theorem unmoved_abortGap (h : Handle) : Unmoved s (abortGap h s) := by
  unfold abortGap; split
  · exact unmoved_abortRadio s h
  · exact unmoved_closeEnded s h
theorem unmoved_cutGap (h : Handle) : Unmoved s (cutGap h s) := by
  unfold cutGap; split
  · exact unmoved_of_seqPower (seqPower_cutEntry _ _ _)
  · exact unmoved_closeEnded s h
theorem unmoved_oweRecovery {s t : State} (h : Unmoved s t) : Unmoved s (oweRecovery t) := h

theorem unmoved_treatFault (c : Cmd) : Unmoved s (treatFault c s) := by
  cases c with
  | tune t =>
    cases t with
    | entry h => exact unmoved_abortRadio s h
    | gap h i => exact unmoved_abortGap s h
    | _ => exact ⟨rfl, rfl⟩
  | on t =>
    cases t with
    | entry h => exact unmoved_oweRecovery (unmoved_abortRadio s h)
    | gap h i => exact unmoved_oweRecovery (unmoved_abortGap s h)
    | _ => exact ⟨rfl, rfl⟩
  | off t =>
    cases t with
    | ended h => exact unmoved_oweRecovery (unmoved_offFaulted s h)
    | gap h i => exact unmoved_oweRecovery (unmoved_abortGap s h)
    | gapCut h => exact unmoved_oweRecovery (unmoved_abortGap s h)
    | _ => exact ⟨rfl, rfl⟩
  | readReport t =>
    cases t with
    | ended h => exact unmoved_closeEnded s h
    | gap h i => exact unmoved_cutGap s h
    | _ => exact ⟨rfl, rfl⟩
  | _ => exact ⟨rfl, rfl⟩

end

end Sys2Proof.Machine
end

section
/-! SUPPORT. How an aborted entry of each origin is told (O56). -/

namespace Sys2Proof.Machine

section
variable {e p : Entry} {s : State}

theorem occurrenceReason_other {r : Reason} (h : r ≠ .priority) : occurrenceReason r = r := by
  unfold occurrenceReason
  split
  · exact absurd rfl h
  · rfl

/-! ### What an entry's removal leaves of the records -/

@[simp] theorem pgu_removeEntry (h : Handle) (s : State) : (removeEntry h s).pgu = s.pgu := by
  unfold removeEntry; split <;> rfl
@[simp] theorem selection_removeEntry (h : Handle) (s : State) : (removeEntry h s).selection = s.selection := by
  unfold removeEntry; split <;> rfl

theorem listenFrameOf_removed {q : ListenRecord}
    (hq : (s.pgu.get e.owner).listens.find? (fun q => q.handle == e.handle) = some q) :
    listenFrameOf e (removeEntry e.handle s) = q.frame := by
  rw [listenFrameOf, listenRecordOf, pgu_removeEntry, hq]

theorem readFrameOf_removed {q : ReadRecord} (hq : (s.pgu.get e.owner).read = some q) (hh : q.handle = e.handle) :
    readFrameOf e (removeEntry e.handle s) = q.readFrame := by
  rw [readFrameOf, pgu_removeEntry, hq]
  exact if_pos hh

/-! ### The partner -/

theorem partnerOf_absent {h : Handle} {u : State} (hp : e.partner = some h) (hn : ∀ f ∈ u.plan, f.handle ≠ h) :
    partnerOf e u = none := by
  have hf : findEntry h u = none := List.find?_eq_none.2 fun f hf => by simpa using hn f hf
  simp [partnerOf, hp, hf]

/-- The other member of a call frame stays in the plan when this one leaves it, and is found by it. -/
theorem partnerOf_removeEntry (hp : e.partner = some p.handle) (hne : p.handle ≠ e.handle)
    (hf : s.plan.find? (fun f => f.handle == p.handle) = some p) (hc : p.origin = .call) (ho : p.owner = e.owner)
    (hn : p.partner = some e.handle) : partnerOf e (removeEntry e.handle s) = some p := by
  have hfind : findEntry p.handle (removeEntry e.handle s) = some p := by
    rw [findEntry, plan_removeEntry, List.find?_filter, ← hf]
    congr 1
    funext f
    by_cases hh : f.handle = p.handle
    · simp [hh, hne]
    · simp [hh]
  simp [partnerOf, hp, hfind, Option.filter, hc, ho, hn]

/-! ### An aborted entry, by its origin (R52, R62, R100, R150) -/

variable {r : Reason}

theorem abortEntry_alone (hp : e.partner = none) : abortEntry e r s = tellLost e .aborted r (removeEntry e.handle s) := by
  rw [abortEntry, partnerLeaves_alone hp]

theorem abortEntry_oneShot (hp : e.partner = none) (ho : e.origin = .oneShot) : abortEntry e r s =
    giveNotice e.owner.port
      { body := .aborted { handle := e.handle, kind := e.kind, reason := some r, level := none }, sub := some e.owner,
        stamp := s.tbu.lt } (removeEntry e.handle s) := by
  rw [abortEntry_alone hp, tellLost_oneShot ho, notify, now_removeEntry]
  rfl

theorem abortEntry_page {q : ListenRecord} (hr : r ≠ .priority) (hp : e.partner = none) (ho : e.origin = .page)
    (hq : (s.pgu.get e.owner).listens.find? (fun q => q.handle == e.handle) = some q) : abortEntry e r s =
    memberGone e.owner .page e.handle none
      (dropListen e.owner e.handle (pageMissed e.owner e.kind q.frame r (removeEntry e.handle s))) := by
  rw [abortEntry_alone hp, ← listenFrameOf_removed hq]
  unfold tellLost
  rw [ho, occurrenceReason_other hr]

theorem abortEntry_pageRead {q : ReadRecord} (hr : r ≠ .priority) (hp : e.partner = none) (ho : e.origin = .pageRead)
    (hq : (s.pgu.get e.owner).read = some q) (hh : q.handle = e.handle) : abortEntry e r s =
    dropRead e.owner e.handle (pageMissed e.owner e.kind q.readFrame r (removeEntry e.handle s)) := by
  rw [abortEntry_alone hp, ← readFrameOf_removed hq hh]
  unfold tellLost
  rw [ho, occurrenceReason_other hr]

theorem abortEntry_meas (hr : r ≠ .priority) (hp : e.partner = none) (ho : e.origin = .meas) : abortEntry e r s =
    memberGone e.owner .meas e.handle (some (e.lossOf r)) (dropSelection e.owner e.handle (removeEntry e.handle s)) := by
  rw [abortEntry_alone hp]
  unfold tellLost
  rw [ho, occurrenceReason_other hr]

theorem abortEntry_sync (hr : r ≠ .priority) (hp : e.partner = none) (ho : e.origin = .sync) : abortEntry e r s =
    giveNotice e.owner.port { body := .syncAborted r, sub := some e.owner, stamp := s.tbu.lt }
      (removeEntry e.handle s) := by
  rw [abortEntry_alone hp]
  unfold tellLost
  rw [ho, occurrenceReason_other hr]
  dsimp only
  rw [notify, now_removeEntry]
  rfl

theorem abortEntry_call (hr : r ≠ .priority) (ho : e.origin = .call) : abortEntry e r s =
    memberGone e.owner .call e.handle (some (e.lossOf r)) (partnerLeaves e (removeEntry e.handle s)) := by
  rw [abortEntry]
  unfold tellLost
  rw [ho, occurrenceReason_other hr]

theorem dropListen_pageMissed {x : Subscription} {h : Handle} {k : Kind} {f : FN} {u : State} (hu : u.pgu = s.pgu) :
    dropListen x h (pageMissed x k f r u) = { pageMissed x k f r u with pgu := s.pgu.set x { s.pgu.get x with
      listens := (s.pgu.get x).listens.filter (fun q => q.handle != h) } } := by
  have hm : (pageMissed x k f r u).pgu = s.pgu := hu
  rw [dropListen, updPgu, PerSub.upd, hm]

theorem dropRead_pageMissed {x : Subscription} {h : Handle} {k : Kind} {f : FN} {u : State} {q : ReadRecord}
    (hu : u.pgu = s.pgu) (hq : (s.pgu.get x).read = some q) (hh : q.handle = h) :
    dropRead x h (pageMissed x k f r u) =
      { pageMissed x k f r u with pgu := s.pgu.set x { s.pgu.get x with read := none } } := by
  have hm : (pageMissed x k f r u).pgu = s.pgu := hu
  have hgone : ((s.pgu.get x).read.filter fun q => q.handle != h) = none := by simp [hq, hh]
  rw [dropRead, updPgu, PerSub.upd, hm, hgone]

end

/-! ### A fault below the third (R79, R80) -/

section
variable {c : Cmd} {sent : LT} {s : State}

theorem timedOut_of (hr : ltRuns s = true) (hf : s.rsq.inFlight = some (c, sent))
    (ht : ltReached s.tbu.lt (sent + BitVec.ofNat 48 260) = true) : timedOut s = some c := by
  have hlate : (ltRuns s && ltReached (now s) (ltAdd sent Config.linkTimeout)) = true := by
    rw [hr, Bool.true_and]; exact ht
  simp only [timedOut, hf, hlate, if_true]

theorem faulted_below (hn : s.rsq.faults < 2) : faulted s =
    { s with rsq := { s.rsq with inFlight := none, indicator := true, faults := s.rsq.faults + 1 } } := by
  have hmin : min 3 (s.rsq.faults + 1) = s.rsq.faults + 1 := by omega
  simp only [faulted, updRsq, hmin]

theorem faulted_third (hn : 2 ≤ s.rsq.faults) : faulted s =
    { s with rsq := { s.rsq with inFlight := none, indicator := true, faults := 3 } } := by
  have hmin : min 3 (s.rsq.faults + 1) = 3 := by omega
  simp only [faulted, updRsq, hmin]

/-- Below the third fault the command's treatment is all that happens. -/
theorem linkFault_below (h : timedOut s = some c) (hn : s.rsq.faults < 2) :
    exec .linkFault s = happened (treatFault c (faulted s)) := by
  have hcount : ¬ ((treatFault c (faulted s)).rsq.faults = 3 ∧ (treatFault c (faulted s)).rsq.link = .up) := by
    rintro ⟨h3, -⟩
    rw [(unmoved_treatFault (faulted s) c).2, faulted_below hn] at h3
    have hsum : s.rsq.faults + 1 = 3 := h3
    omega
  show execLinkFault s = _
  simp only [execLinkFault, h, if_neg hcount]
  rfl

/-- The third fault takes the link down (R81). -/
theorem linkFault_third (h : timedOut s = some c) (hn : 2 ≤ s.rsq.faults) (hl : s.rsq.link = .up) :
    exec .linkFault s = happened (radioDown c.kind (treatFault c (faulted s))) := by
  obtain ⟨hlink, hfaults⟩ := unmoved_treatFault (faulted s) c
  have hthird : (treatFault c (faulted s)).rsq.faults = 3 ∧ (treatFault c (faulted s)).rsq.link = .up := by
    rw [hlink, hfaults, faulted_third hn]
    exact ⟨rfl, hl⟩
  show execLinkFault s = _
  simp only [execLinkFault, h, if_pos hthird]
  rfl

/-! ### By the command that faulted (R76, R77, R79) -/

variable {h : Handle} {i : Nat}

theorem abortRadio_found {e : Entry} (hf : findEntry h s = some e) : abortRadio h s = abortEntry e .radio s := by
  rw [abortRadio, hf]

theorem inPlan_of_found {e : Entry} (hf : findEntry h s = some e) : inPlan h s = true :=
  inPlan_iff.2 ⟨e, List.mem_of_find?_eq_some hf, by simpa using List.find?_some hf⟩

theorem findEntry_absent (hn : ∀ e ∈ s.plan, e.handle ≠ h) : findEntry h s = none :=
  List.find?_eq_none.2 fun e he => by simpa using hn e he

theorem abortGap_inPlan {e : Entry} (hf : findEntry h s = some e) : abortGap h s = abortEntry e .radio s := by
  rw [abortGap, if_pos (inPlan_of_found hf), abortRadio_found hf]

theorem closeEnded_found {w : EndedWindow} (hw : findEnded h s = some w) : closeEnded h s = failEnded w (dropEnded h s) := by
  rw [closeEnded, hw]

theorem abortGap_ended {w : EndedWindow} (hn : ∀ e ∈ s.plan, e.handle ≠ h) (hw : findEnded h s = some w) :
    abortGap h s = failEnded w (dropEnded h s) := by
  rw [abortGap, if_neg, closeEnded_found hw]
  rw [inPlan_iff]
  rintro ⟨e, he, hh⟩
  exact hn e he hh

theorem offFaulted_found {w : EndedWindow} (hw : findEnded h s = some w) : offFaulted h s =
    if w.cause = .cancelled then handOn w none (dropEnded h s) else failEnded w (dropEnded h s) := by
  rw [offFaulted, hw]

theorem cutGap_inPlan {e : Entry} (hf : findEntry h s = some e) : cutGap h s = cutEntry e .radio s := by
  rw [cutGap, hf]

theorem cutGap_ended {w : EndedWindow} (hn : ∀ e ∈ s.plan, e.handle ≠ h) (hw : findEnded h s = some w) :
    cutGap h s = failEnded w (dropEnded h s) := by
  rw [cutGap, findEntry_absent hn, closeEnded_found hw]

theorem gapOpen_iff (e : Entry) (s : State) : gapOpen e s = true ↔
    ∃ g, s.rsq.gap = some g ∧ g.handle = e.handle ∧ g.stage = .opened ∧ g.index < g.count := by
  unfold gapOpen
  cases s.rsq.gap <;> simp [and_assoc]

/-- A gap cut while a window is open: OFF, and its reads given up (log 41). -/
theorem cutEntry_openGap {e : Entry} {r : Reason} (hx : e.state = .executing) (ho : gapOpen e s = true) :
    cutEntry e r s = abortEntry e r (demand (.off .none) (dropReads e.handle s)) := by
  simp [cutEntry, offAtOnce, cutOff, hx, ho]

theorem cutEntry_shutGap {e : Entry} {r : Reason} (hx : e.state = .executing) (hk : e.kind = .measureGap)
    (ho : gapOpen e s = false) : cutEntry e r s = abortEntry e r (dropReads e.handle s) := by
  simp [cutEntry, offAtOnce, hx, hk, ho]

end

end Sys2Proof.Machine
end

section
/-! SUPPORT. RADIO_DOWN, the late report of a gap, and O56. -/

namespace Sys2Proof.Machine

/-! ### A report of a gap that has left the plan (R76, R78) -/

section
variable {h : Handle} {i : Nat} {s : State}

theorem ackable_of {c : Cmd} {sent : LT} (hr : ltRuns s = true) (hf : s.rsq.inFlight = some (c, sent))
    (ht : ltReached (sent + BitVec.ofNat 48 260) s.tbu.lt = true) : ackable s = some c := by
  have htime : (ltRuns s && ltReached (ltAdd sent Config.linkTimeout) (now s)) = true := by
    rw [hr, Bool.true_and]; exact ht
  simp only [ackable, hf, htime, if_true]

@[simp] theorem rsq_bankSwitch (x : Subscription) (s : State) : (bankSwitch x s).rsq = s.rsq := by
  unfold bankSwitch; dsimp only; split <;> rfl
@[simp] theorem rsq_tellCandidate (x : Subscription) (b : Bool) (n : Neighbour) (l : Option Int) (s : State) :
    (tellCandidate x b n l s).rsq = s.rsq := by
  unfold tellCandidate; split <;> rfl
@[simp] theorem rsq_writeReport (x : Subscription) (r : ReportRecord) (s : State) : (writeReport x r s).rsq = s.rsq := rfl
@[simp] theorem rsq_setNeighbour (x : Subscription) (j : Nat) (n : Neighbour) (s : State) :
    (setNeighbour x j n s).rsq = s.rsq := rfl
/-- A result of a gap's window leaves the sequencer alone (R135). -/
theorem rsq_neighbourResult (x : Subscription) (g : Handle) (j : Nat) (v : Int) (s : State) :
    (neighbourResult x g j v s).rsq = s.rsq := by
  unfold neighbourResult; dsimp only; (repeat' split) <;> simp

theorem clampLevel_eq (v : Int) : clampLevel v = max (-300) (min v (-40)) := by
  have hmin : Config.levelMin = -300 := rfl
  have hmax : Config.levelMax = -40 := rfl
  unfold clampLevel clampInt
  rw [hmin, hmax]
  (repeat' split) <;> omega

theorem reportRead_endedGap {w : EndedWindow} {level metric : Int} (hw : findEnded h s = some w) :
    reportRead (.gap h i) level metric s =
      endedReportRead w (neighbourResult w.entry.owner h i (clampLevel level) s) := by
  have hown : gapOwner h s = some w.entry.owner := by simp [gapOwner, hw]
  have hlater : findEnded h (neighbourResult w.entry.owner h i (clampLevel level) s) = some w := by
    rw [findEnded, rsq_neighbourResult]; exact hw
  simp only [reportRead, hown, hlater]

theorem endedReportRead_eq {w : EndedWindow} {u : State} (hh : w.entry.handle = h) : endedReportRead w u =
    if w.awaiting ≤ 1 then
      handOn w none { u with rsq := { u.rsq with ended := u.rsq.ended.filter (fun v => v.entry.handle != h) } }
    else
      { u with rsq := { u.rsq with ended := u.rsq.ended.map (fun v =>
          if v.entry.handle = h then { v with awaiting := v.awaiting - 1 } else v) } } := by
  subst hh
  rfl

theorem handle_of_findEnded {w : EndedWindow} (hw : findEnded h s = some w) : w.entry.handle = h := by
  simpa using List.find?_some hw

end

/-! ### RADIO_DOWN (R81) -/

theorem forEntries_eq_foldl (f : Entry → State → State) (es : List Entry) (s : State) :
    forEntries f es s = es.foldl (fun u e => f e u) s := by
  induction es generalizing s with
  | nil => rfl
  | cons e es ih => rw [forEntries, ih, List.foldl_cons]

theorem forWindows_eq_foldl (f : EndedWindow → State → State) (ws : List EndedWindow) (s : State) :
    forWindows f ws s = ws.foldl (fun u w => f w u) s := by
  induction ws generalizing s with
  | nil => rfl
  | cons w ws ih => rw [forWindows, ih, List.foldl_cons]

section
variable {s : State}

/-- The sequencer as the link goes down, with the first probe time. -/
def linkDown (s : State) : State :=
  { s with rsq := { s.rsq with link := .radioDown, ended := [], recoveryOwed := false, waiting := [], probes := 0,
                               probeTime := some (s.tbu.lt + BitVec.ofNat 48 2080000) } }

/-- The state once the entries and the ended windows have gone with the link. -/
def closedDown (s : State) : State :=
  forWindows failEnded s.rsq.ended
    (forEntries abortDown (s.plan.filter (fun e => e.state != .admitted)) (linkDown s))

@[simp] theorem seqPower_abortDown (e : Entry) (s : State) : seqPower (abortDown e s) = seqPower s := by
  unfold abortDown; split <;> simp

theorem seqPower_closedDown (s : State) : seqPower (closedDown s) = seqPower (linkDown s) :=
  (seqPower_forWindows (fun w s => seqPower_failEnded s w) _ _).trans (seqPower_forEntries seqPower_abortDown _ _)

theorem tbu_failEnded (w : EndedWindow) (s : State) : (failEnded w s).tbu = s.tbu := by
  unfold failEnded
  split
  · exact tbu_of_base (base_handOn_none w s)
  · rfl
  · exact tbu_of_base (base_tellLost _ _ _ s)

theorem tbu_forWindows {f : EndedWindow → State → State} (hf : ∀ w s, (f w s).tbu = s.tbu) (ws : List EndedWindow)
    (s : State) : (forWindows f ws s).tbu = s.tbu := by
  induction ws generalizing s with
  | nil => rfl
  | cons w ws ih => rw [forWindows, ih, hf]

theorem tbu_closedDown (s : State) : (closedDown s).tbu = s.tbu := by
  rw [closedDown, tbu_forWindows tbu_failEnded, tbu_of_base (base_forEntries base_abortDown _ _)]
  rfl

/-- RADIO_DOWN is told to the three ports, and a slumber request is answered (R72, R81). -/
theorem radioDown_eq (k : CmdKind) (s : State) :
    let n : Notice := { body := .radioDown k, sub := none, stamp := s.tbu.lt }
    radioDown k s =
      { closedDown s with
        queues := (((closedDown s).queues.upd .A (·.push n)).upd .B (·.push n)).upd .P (·.push n),
        power := { s.power with entry := s.power.entry.map (fun e => { e with answered := true }) } } := by
  intro n
  have hpower : (closedDown s).power = (linkDown s).power := power_of_seqPower (seqPower_closedDown s)
  have hlt : (closedDown s).tbu = s.tbu := tbu_closedDown s
  have hdown : radioDown k s = answerSlumber (notifyAll (.radioDown k) (closedDown s)) := rfl
  rw [hdown]
  simp only [answerSlumber, notifyAll, notifyBare, giveNotice, updPower, now, hlt, hpower]
  rfl

/-! ### RADIO_DOWN with one-shots alone in the plan -/

/-- ABORTED of a one-shot, given to its owner's queue. -/
def pushAborted (why : Reason) (stamp : LT) (q : PerPort NoticeQueue) (e : Entry) : PerPort NoticeQueue :=
  q.upd e.owner.port (fun n => n.push
    { body := .aborted { handle := e.handle, kind := e.kind, reason := some why, level := none }, sub := some e.owner,
      stamp := stamp })

/-- Entries that are one-shots without a partner, each under its own handle. -/
structure OneShots (es : List Entry) : Prop where
  distinct : (es.map Entry.handle).Nodup
  alone : ∀ e ∈ es, e.origin = .oneShot ∧ e.partner = none

theorem abortDown_oneShot {e : Entry} (he : inPlan e.handle s = true) (ho : e.origin = .oneShot) (hp : e.partner = none) :
    abortDown e s = giveNotice e.owner.port
      { body := .aborted { handle := e.handle, kind := e.kind, reason := some .radioDown, level := none },
        sub := some e.owner, stamp := s.tbu.lt } (removeEntry e.handle s) := by
  rw [abortDown, if_pos he, abortEntry_oneShot hp ho]

/-- One-shots of the plan aborted in turn leave it, and are told in that order (R81, log 42). -/
theorem abortDown_oneShots {es : List Entry} (h : OneShots es) (hin : ∀ e ∈ es, inPlan e.handle s = true) :
    (forEntries abortDown es s).plan = s.plan.filter (fun g => !es.any (fun e => e.handle == g.handle)) ∧
    (forEntries abortDown es s).queues = es.foldl (pushAborted .radioDown s.tbu.lt) s.queues := by
  induction es generalizing s with
  | nil => exact ⟨by simp [forEntries], rfl⟩
  | cons e es ih =>
    obtain ⟨hne, hes⟩ := List.nodup_cons.1 h.distinct
    obtain ⟨ho, hp⟩ := h.alone e List.mem_cons_self
    have hstep := abortDown_oneShot (hin e List.mem_cons_self) ho hp
    have hstay : ∀ f ∈ es, inPlan f.handle (abortDown e s) = true := by
      intro f hf
      obtain ⟨g, hg, hh⟩ := inPlan_iff.1 (hin f (List.mem_cons_of_mem _ hf))
      have hgone : g.handle ≠ e.handle := fun heq => hne (List.mem_map.2 ⟨f, hf, hh.symm.trans heq⟩)
      rw [hstep, inPlan_iff, giveNotice_plan, plan_removeEntry]
      exact ⟨g, List.mem_filter.2 ⟨hg, by simpa using hgone⟩, hh⟩
    have hrest : OneShots es := ⟨hes, fun f hf => h.alone f (List.mem_cons_of_mem _ hf)⟩
    obtain ⟨hplan, hqueues⟩ := ih hrest hstay
    rw [tbu_of_base (base_abortDown e s)] at hqueues
    rw [forEntries, hplan, hqueues, hstep, giveNotice_plan, plan_removeEntry, giveNotice_queues, queues_removeEntry,
      List.filter_filter]
    refine ⟨List.filter_congr fun g _ => ?_, rfl⟩
    rw [List.any_cons, Bool.not_or, Bool.and_comm, bne, BEq.comm]

/-- The ended windows of one-shots closed in turn: the plan stays, and each is told with its own stamp (R79, R81). -/
theorem failEnded_oneShots {ws : List EndedWindow} (h : ∀ w ∈ ws, w.entry.origin = .oneShot) :
    (forWindows failEnded ws s).plan = s.plan ∧ (forWindows failEnded ws s).queues =
      ws.foldl (fun q w => pushAborted .radio w.stamp q w.entry) s.queues := by
  induction ws generalizing s with
  | nil => exact ⟨rfl, rfl⟩
  | cons w ws ih =>
    obtain ⟨hplan, hqueues⟩ := ih (s := failEnded w s) fun v hv => h v (List.mem_cons_of_mem _ hv)
    rw [forWindows, hplan, hqueues, failEnded_oneShot (h w List.mem_cons_self)]
    exact ⟨rfl, rfl⟩

theorem oneShots_filter (p : Entry → Bool) (hd : slotsDistinct s.plan = true)
    (ho : ∀ e ∈ s.plan, e.origin = .oneShot ∧ e.partner = none) : OneShots (s.plan.filter p) where
  distinct := handles_nodup (slotsDistinct_filter p hd)
  alone := fun e he => ho e (List.mem_filter.1 he).1

/-- With one-shots alone in the plan the ADMITTED entries stay, and nothing else does (R81). -/
theorem closedDown_oneShots (hd : slotsDistinct s.plan = true) (ho : ∀ e ∈ s.plan, e.origin = .oneShot ∧ e.partner = none)
    (hw : ∀ w ∈ s.rsq.ended, w.entry.origin = .oneShot) :
    (closedDown s).plan = s.plan.filter (fun e => e.state == .admitted) ∧
    (closedDown s).queues = s.rsq.ended.foldl (fun q w => pushAborted .radio w.stamp q w.entry)
      ((s.plan.filter (fun e => e.state != .admitted)).foldl (pushAborted .radioDown s.tbu.lt) s.queues) := by
  have hin : ∀ e ∈ s.plan.filter (fun e => e.state != .admitted), inPlan e.handle (linkDown s) = true :=
    fun e he => inPlan_iff.2 ⟨e, (List.mem_filter.1 he).1, rfl⟩
  obtain ⟨hplan, hqueues⟩ := abortDown_oneShots (oneShots_filter _ hd ho) hin
  obtain ⟨hplan', hqueues'⟩ := failEnded_oneShots
    (s := forEntries abortDown (s.plan.filter (fun e => e.state != .admitted)) (linkDown s)) hw
  refine ⟨hplan'.trans (hplan.trans (List.filter_congr fun g hg => ?_)), hqueues'.trans (by rw [hqueues]; rfl)⟩
  rw [Bool.eq_iff_iff, Bool.not_eq_true', List.any_eq_false]
  constructor
  · intro hnone
    by_contra hst
    exact hnone g (List.mem_filter.2 ⟨hg, by simpa using hst⟩) (beq_self_eq_true _)
  · intro hst e he hh
    obtain ⟨hep, hes⟩ := List.mem_filter.1 he
    rw [eq_of_handle hd hep hg (beq_iff_eq.1 hh)] at hes
    simp [beq_iff_eq.1 hst] at hes

theorem treatFault_power {c : Cmd} (hc : c.kind = .standby ∨ c.kind = .powerUp ∨ c.kind = .trim) (s : State) :
    treatFault c s = s := by
  cases c with
  | tune | on | off | readReport | powerDown => simp [Cmd.kind] at hc
  | _ => rfl

end

/-- Settles O56: faults below the third by command, a gap's late report, RADIO_DOWN, and the loss by origin. -/
theorem faultsByCommand : Obligations.FaultsByCommand := by
  refine ⟨fun c sent s hr hf ht hn => ?_, fun h i w sent level metric s hr ht hf hw => ?_,
    fun c sent s hr hf ht hn hl hc hd ho hended => ?_, fun e r s hr => ?_, fun c sent s u hr hf ht hn hl => ?_⟩
  · intro counted owed dropped inGap
    have hbelow : exec .linkFault s = happened (treatFault c counted) := by
      rw [linkFault_below (timedOut_of hr hf ht) hn, faulted_below hn]
    have hgap : ∀ h, inGap h (abortGap h counted) := fun h =>
      ⟨fun e he => abortGap_inPlan he, fun w hno hw => abortGap_ended (s := counted) hno hw⟩
    refine ⟨fun h i ch d ix l hc => ?_, fun h i hc => ?_, fun h hc => ?_, fun h w hc hw => ?_, fun h w hc hw => ?_,
      fun h i hc => ⟨fun e he hx hk => ?_, fun w hno hw => ?_⟩⟩
    · subst hc
      exact ⟨_, hbelow, hgap h⟩
    · refine ⟨abortGap h counted, ?_, hgap h⟩
      rcases hc with rfl | rfl <;> exact hbelow
    · subst hc
      exact ⟨_, hbelow, hgap h⟩
    · subst hc
      rw [hbelow, treatFault, offFaulted_found (s := counted) hw]
      rfl
    · subst hc
      rw [hbelow, treatFault, closeEnded_found (s := counted) hw]
      rfl
    · subst hc
      intro open_ unread
      have hh : e.handle = h := by simpa using List.find?_some he
      have hcut : treatFault (.readReport (.gap h i)) counted = cutEntry e .radio counted := cutGap_inPlan (s := counted) he
      have hopen : gapOpen e counted = true ↔ open_ := by rw [gapOpen_iff, hh]
      rw [hbelow, hcut]
      refine ⟨fun hop => ?_, fun hop => ?_⟩
      · rw [cutEntry_openGap hx (hopen.2 hop), hh]
        rfl
      · rw [cutEntry_shutGap hx hk (Bool.eq_false_iff.2 fun ht => hop (hopen.1 ht)), hh]
        rfl
    · subst hc
      rw [hbelow, treatFault, cutGap_ended (s := counted) hno hw]
      rfl
  · intro t u
    have hhow : exec (.readReportAck level metric) s = happened (reportRead (.gap h i) level metric (acked s)) := by
      show execReadReportAck level metric s = _
      simp only [execReadReportAck, ackable_of hr hf ht]
      rfl
    have hu : neighbourResult w.entry.owner h i (clampLevel level) (acked s) = u := by rw [clampLevel_eq]; rfl
    have hended : u.rsq.ended = t.rsq.ended := congrArg Rsq.ended (rsq_neighbourResult _ _ _ _ t)
    rw [hhow, reportRead_endedGap (s := acked s) hw, hu, endedReportRead_eq (handle_of_findEnded (s := s) hw), hended]
  · intro lost aborted closed n
    have hdown := linkFault_third (timedOut_of hr hf ht) hn hl
    rw [treatFault_power hc, faulted_third hn, radioDown_eq] at hdown
    obtain ⟨hplan, hqueues⟩ := closedDown_oneShots
      (s := { s with rsq := { s.rsq with inFlight := none, indicator := true, faults := 3 } }) hd ho hended
    refine ⟨_, hdown, hplan, ?_, ended_of_seqPower (seqPower_closedDown _)⟩
    dsimp only
    rw [hqueues]
    rfl
  · intro x gone loss tell
    refine ⟨fun hp => ⟨abortEntry_oneShot hp, fun q ho hq => ?_, fun q ho hq hh => ?_, fun ho => ?_, abortEntry_sync hr hp⟩,
      fun p ho hpe hne hfp hc hown hn => ?_, fun h ho hpe hn => ?_⟩
    · rw [abortEntry_page hr hp ho hq, dropListen_pageMissed (pgu_removeEntry e.handle s)]
    · rw [abortEntry_pageRead hr hp ho hq hh, dropRead_pageMissed (pgu_removeEntry e.handle s) hq hh]
    · rw [abortEntry_meas hr hp ho, dropSelection, setSelection, selection_removeEntry]
      rfl
    · rw [abortEntry_call hr ho, partnerLeaves, partnerOf_removeEntry hpe hne hfp hc hown hn]
      dsimp only
      rw [hown]
      rfl
    · rw [abortEntry_call hr ho, partnerLeaves, partnerOf_absent hpe]
      · rfl
      · rw [plan_removeEntry]
        exact fun f hf => hn f (List.mem_filter.1 hf).1
  · intro counted hcase down aborted closed n
    have hdown := linkFault_third (timedOut_of hr hf ht) hn hl
    rw [faulted_third hn] at hdown
    have hu : treatFault c counted = u ∧ seqPower u = seqPower counted ∧ u.tbu = s.tbu := by
      rcases hcase with ⟨hc, rfl⟩ | ⟨h, ch, d, ix, l, e, rfl, he, rfl⟩
      · exact ⟨treatFault_power hc counted, rfl, rfl⟩
      · exact ⟨abortRadio_found (s := counted) he, seqPower_abortEntry _ _ _, tbu_of_base (base_abortEntry e .radio counted)⟩
    obtain ⟨htreat, hkeep, htbu⟩ := hu
    have hlt : u.tbu.lt = s.tbu.lt := congrArg Tbu.lt htbu
    have hlinkDown : linkDown u = down := by rw [linkDown, hlt]
    have hclosed : closedDown u = closed := by
      rw [closedDown, forWindows_eq_foldl, forEntries_eq_foldl, hlinkDown]
      rfl
    have hpower : u.power = counted.power := power_of_seqPower hkeep
    rw [hdown, htreat, radioDown_eq, hclosed, hpower, hlt]

end Sys2Proof.Machine
end

section
/-! SUPPORT. What a fault's treatment and the closing at RADIO_DOWN leave of the link and the other blocks (R79 to R81). -/

namespace Sys2Proof.Machine

/-! ### Blocks that no fault touches -/

@[simp] theorem base_failEnded (w : EndedWindow) (s : State) : base (failEnded w s) = base s := by
  unfold failEnded; split <;> simp
theorem base_forWindows {f : EndedWindow → State → State} (hf : ∀ w s, base (f w s) = base s) (ws : List EndedWindow)
    (s : State) : base (forWindows f ws s) = base s := by
  induction ws generalizing s with
  | nil => rfl
  | cons w ws ih => rw [forWindows, ih, hf]

theorem base_closedDown (s : State) : base (closedDown s) = base s :=
  (base_forWindows base_failEnded _ _).trans (base_forEntries base_abortDown _ _)

/-- The sequencer but for what a fault's treatment may change: the waiting commands, the gap's windows, the ended windows and
the recovery that is owed. -/
def Rsq.line (r : Rsq) : Rsq := { r.rest with ended := [], recoveryOwed := false }

/-- What the treatment of a fault leaves alone. -/
structure Treated (s t : State) : Prop where
  line : t.rsq.line = s.rsq.line
  base : Machine.base t = Machine.base s

section
variable {s t u : State}

theorem Treated.refl (s : State) : Treated s s := ⟨rfl, rfl⟩
theorem Treated.of_seqPower (h : seqPower t = seqPower s) (hb : Machine.base t = Machine.base s) : Treated s t where
  line := by rw [Rsq.line, (Prod.mk.inj h).1]; rfl
  base := hb
theorem Treated.oweRecovery (h : Treated s t) : Treated s (oweRecovery t) := ⟨h.line, h.base⟩
/-- An operation on the state without an ended window. -/
theorem Treated.afterDrop {h : Handle} (ht : Treated (dropEnded h s) t) : Treated s t := ⟨ht.line, ht.base⟩

theorem treated_abortEntry (e : Entry) (r : Reason) (s : State) : Treated s (abortEntry e r s) :=
  .of_seqPower (seqPower_abortEntry s e r) (base_abortEntry e r s)
theorem treated_failEnded (w : EndedWindow) (s : State) : Treated s (failEnded w s) :=
  .of_seqPower (seqPower_failEnded s w) (base_failEnded w s)
theorem treated_handOn_none (w : EndedWindow) (s : State) : Treated s (handOn w none s) :=
  .of_seqPower (seqPower_handOn s w none) (base_handOn_none w s)

theorem treated_abortRadio (h : Handle) (s : State) : Treated s (abortRadio h s) := by
  unfold abortRadio; split
  · exact treated_abortEntry _ _ _
  · exact .refl s
theorem treated_closeEnded (h : Handle) (s : State) : Treated s (closeEnded h s) := by
  unfold closeEnded; split
  · exact (treated_failEnded _ _).afterDrop
  · exact .refl s
theorem treated_offFaulted (h : Handle) (s : State) : Treated s (offFaulted h s) := by
  unfold offFaulted; (repeat' split)
  · exact (treated_handOn_none _ _).afterDrop
  · exact (treated_failEnded _ _).afterDrop
  · exact .refl s
theorem treated_abortGap (h : Handle) (s : State) : Treated s (abortGap h s) := by
  unfold abortGap; split
  · exact treated_abortRadio h s
  · exact treated_closeEnded h s
theorem treated_cutGap (h : Handle) (s : State) : Treated s (cutGap h s) := by
  unfold cutGap; split
  · exact .of_seqPower (seqPower_cutEntry _ _ _) (base_cutEntry _ _ _)
  · exact treated_closeEnded h s

theorem treated_treatFault (c : Cmd) (s : State) : Treated s (treatFault c s) := by
  cases c with
  | tune t =>
    cases t with
    | entry h => exact treated_abortRadio h s
    | gap h i => exact treated_abortGap h s
    | _ => exact .refl s
  | on t =>
    cases t with
    | entry h => exact (treated_abortRadio h s).oweRecovery
    | gap h i => exact (treated_abortGap h s).oweRecovery
    | _ => exact .refl s
  | off t =>
    cases t with
    | ended h => exact (treated_offFaulted h s).oweRecovery
    | gap h i => exact (treated_abortGap h s).oweRecovery
    | gapCut h => exact (treated_abortGap h s).oweRecovery
    | _ => exact (Treated.refl s).oweRecovery
  | readReport t =>
    cases t with
    | ended h => exact treated_closeEnded h s
    | gap h i => exact treated_cutGap h s
    | _ => exact .refl s
  | powerDown => exact ⟨rfl, rfl⟩
  | _ => exact .refl s

end

/-! ### Nothing waits once the link is down (R71, R82) -/

/-- The link is RADIO_DOWN and no command waits. -/
structure Mute (s : State) : Prop where
  down : s.rsq.link = .radioDown
  empty : s.rsq.waiting = []

@[simp] theorem rsq_tellLoss (x : Subscription) (l : Option LossDetail) (s : State) : (tellLoss x l s).rsq = s.rsq := by
  cases l <;> rfl
@[simp] theorem rsq_runOnGone (x : Subscription) (h : Handle) (l : Option LossDetail) (s : State) :
    (runOnGone x h l s).rsq = s.rsq := by
  unfold runOnGone; dsimp only; (repeat' split) <;> simp [setRunOn]
@[simp] theorem rsq_memberGone (x : Subscription) (k : Pat) (h : Handle) (l : Option LossDetail) (s : State) :
    (memberGone x k h l s).rsq = s.rsq := by
  unfold memberGone; dsimp only; (repeat' split) <;> simp [updPattern]
@[simp] theorem rsq_tellLost (e : Entry) (k : LossKind) (r : Reason) (s : State) : (tellLost e k r s).rsq = s.rsq := by
  unfold tellLost; dsimp only
  cases e.origin with
  | oneShot => cases k <;> rfl
  | page | meas | call => exact rsq_memberGone _ _ _ _ _
  | pageRead | sync => rfl
@[simp] theorem rsq_yieldTurn (x : Subscription) (h : Handle) (s : State) : (yieldTurn x h s).rsq = s.rsq := by
  unfold yieldTurn; (repeat' split) <;> rfl
@[simp] theorem rsq_placeOne (m : Bool) (e : Entry) (s : State) : (placeOne m e s).2.rsq = s.rsq := by
  unfold placeOne; (repeat' split) <;> rfl
@[simp] theorem rsq_place (m : Bool) (es : List Entry) (s : State) : (place m es s).2.rsq = s.rsq := by
  unfold place; (repeat' split) <;> simp [linkPartners]

section
variable {s : State}

theorem Mute.of_rsq {t : State} (h : Mute s) (ht : t.rsq = s.rsq) : Mute t :=
  ⟨by rw [ht]; exact h.down, by rw [ht]; exact h.empty⟩

theorem Mute.removeEntry (h : Mute s) (g : Handle) : Mute (removeEntry g s) := by
  unfold Machine.removeEntry; split
  · exact ⟨h.down, by simp [h.empty]⟩
  · exact h
theorem Mute.demand (h : Mute s) (c : Cmd) : Mute (demand c s) := by
  rw [Machine.demand, if_neg (by simp [h.down])]; exact h
theorem Mute.dropReads (h : Mute s) (g : Handle) : Mute (dropReads g s) := ⟨h.down, by simp [Machine.dropReads, h.empty]⟩
theorem Mute.offAtOnce (h : Mute s) (e : Entry) : Mute (offAtOnce e s) := by
  unfold Machine.offAtOnce cutOff; (repeat' split)
  · exact h.dropReads _
  · exact (h.dropReads _).demand _
  · exact h
theorem Mute.partnerLeaves (h : Mute s) (e : Entry) : Mute (partnerLeaves e s) := by
  unfold Machine.partnerLeaves; (repeat' split)
  · exact h
  · exact (h.removeEntry _).of_rsq (rsq_memberGone _ _ _ _ _)
  · exact h
theorem Mute.abortEntry (h : Mute s) (e : Entry) (r : Reason) : Mute (abortEntry e r s) :=
  ((h.removeEntry e.handle).partnerLeaves e).of_rsq (rsq_tellLost _ _ _ _)
theorem Mute.displaceEntry (h : Mute s) (e : Entry) (r : Reason) : Mute (displaceEntry e r s) :=
  ((h.removeEntry e.handle).partnerLeaves e).of_rsq (rsq_tellLost _ _ _ _)

theorem Mute.forEntries {f : Entry → State → State} (hf : ∀ e s, Mute s → Mute (f e s)) (es : List Entry) (h : Mute s) :
    Mute (forEntries f es s) := by
  induction es generalizing s with
  | nil => exact h
  | cons e es ih => exact ih (hf e s h)
theorem Mute.forWindows {f : EndedWindow → State → State} (hf : ∀ w s, Mute s → Mute (f w s)) (ws : List EndedWindow)
    (h : Mute s) : Mute (forWindows f ws s) := by
  induction ws generalizing s with
  | nil => exact h
  | cons w ws ih => exact ih (hf w s h)

theorem Mute.defeat (ms : List Entry) (e : Entry) (h : Mute s) : Mute (defeat ms e s) := by
  unfold Machine.defeat cutBack; (repeat' split)
  · exact h
  · exact h.of_rsq rfl
  · exact (h.offAtOnce e).abortEntry e _
  · exact h
  · exact h.displaceEntry e _
theorem Mute.yieldEntry (e : Entry) (h : Mute s) : Mute (yieldEntry e s) := by
  unfold Machine.yieldEntry; split
  · have hn : Mute (notify e.owner (.callYield (callFrameStart e s)) s) := h.of_rsq rfl
    exact ((hn.removeEntry e.handle).partnerLeaves e).of_rsq (rsq_yieldTurn _ _ _)
  · exact h

/-- Admission takes no command up while the link is down. -/
theorem Mute.admission (m : Bool) (ms : List Entry) (h : Mute s) : Mute ((admitEntries m ms s).after s) := by
  unfold admitEntries; (repeat' split)
  case h_2.isFalse.isFalse.isTrue =>
    exact (Mute.forEntries (fun e _ => Mute.yieldEntry e) (affected ms s) h).of_rsq (by simp [Verdict.after, spendCredit])
  case h_2.isFalse.isFalse.isFalse.isFalse.isTrue =>
    exact (Mute.forEntries (fun e _ => Mute.defeat ms e) (affected ms s) h).of_rsq (by simp [Verdict.after])
  all_goals exact h.of_rsq rfl

theorem Mute.admitted {m : Bool} {ms : List Entry} {hs : List Handle} {t : State} (h : Mute s)
    (hv : admitEntries m ms s = .admitted hs t) : Mute t := by
  have ha := h.admission m ms; rwa [hv] at ha
theorem Mute.yielded {m : Bool} {ms : List Entry} {t : State} (h : Mute s) (hv : admitEntries m ms s = .yielded t) :
    Mute t := by
  have ha := h.admission m ms; rwa [hv] at ha

theorem Mute.offerPageRead (x : Subscription) (r : ListenRecord) (h : Mute s) : Mute (offerPageRead x r s) := by
  unfold Machine.offerPageRead; dsimp only; (repeat' split)
  · rename_i hv; exact (h.admitted hv).of_rsq rfl
  · rename_i hv; exact h.admitted hv
  · exact h.of_rsq rfl
  · rename_i hv; exact h.yielded hv
  · exact h.of_rsq rfl
  · exact h
theorem Mute.pageFound (x : Subscription) (r : ListenRecord) (d : Decision) (m : Option Int) (h : Mute s) :
    Mute (pageFound x r d m s) := by
  unfold Machine.pageFound; dsimp only; split
  · exact Mute.offerPageRead x r (h.of_rsq rfl)
  · exact h.of_rsq rfl
theorem Mute.judgeListen (e : Entry) (m : Option Int) (h : Mute s) : Mute (judgeListen e m s) := by
  unfold Machine.judgeListen; dsimp only; (repeat' split)
  · exact h.of_rsq rfl
  · exact Mute.pageFound _ _ _ _ (h.of_rsq rfl)
  · exact h
theorem Mute.failEnded (w : EndedWindow) (h : Mute s) : Mute (failEnded w s) := by
  unfold Machine.failEnded; split
  · rename_i ho
    rw [handOn_page ho]
    exact (h.judgeListen w.entry none).of_rsq (rsq_memberGone _ _ _ _ _)
  · exact h.of_rsq rfl
  · exact h.of_rsq (rsq_tellLost _ _ _ _)
theorem Mute.abortDown (e : Entry) (h : Mute s) : Mute (abortDown e s) := by
  unfold Machine.abortDown; split
  · exact h.abortEntry e _
  · exact h

end

theorem mute_closedDown (s : State) : Mute (closedDown s) :=
  Mute.forWindows (fun w _ => Mute.failEnded w) _ (Mute.forEntries (fun e _ => Mute.abortDown e) _ ⟨rfl, rfl⟩)

theorem eq_of_rest {r r' : Rsq} (h : r.rest = r'.rest) : r = { r' with waiting := r.waiting, gap := r.gap } := by
  cases r; cases r'
  simp only [Rsq.rest, Rsq.mk.injEq] at h ⊢
  simp [h]

/-- The sequencer once RADIO_DOWN has closed the plan: nothing waits, and only a gap's windows may have changed (R81). -/
theorem rsq_closedDown (s : State) : (closedDown s).rsq = { (linkDown s).rsq with gap := (closedDown s).rsq.gap } := by
  have h := eq_of_rest (Prod.mk.inj (seqPower_closedDown s)).1
  rw [(mute_closedDown s).empty] at h
  exact h

end Sys2Proof.Machine
end

section
/-! SUPPORT. A window report handed on, link faults and RADIO_DOWN (O55). -/

namespace Sys2Proof.Machine

section
variable {s : State} {h : Handle} {sent : LT} {level metric : Int}

/-! ### Reports (R76, R78) -/

theorem clampMetric_eq (v : Int) : clampMetric v = max 0 (min v 255) := by
  unfold clampMetric clampInt
  (repeat' split) <;> omega

theorem readReportAck_of {t : Target} (hr : ltRuns s = true) (hf : s.rsq.inFlight = some (.readReport t, sent))
    (ht : ltReached (sent + BitVec.ofNat 48 260) s.tbu.lt = true) :
    exec (.readReportAck level metric) s = happened (reportRead t level metric (acked s)) := by
  show execReadReportAck level metric s = _
  simp only [execReadReportAck, ackable_of hr hf ht]
  rfl

theorem reportRead_ended {w : EndedWindow} (hw : findEnded h s = some w) : reportRead (.ended h) level metric s =
    handOn w (some (clampLevel level, clampMetric metric)) (dropEnded h s) := by
  simp only [reportRead, hw]

theorem findEnded_none (hn : ∀ v ∈ s.rsq.ended, v.entry.handle ≠ h) : findEnded h s = none :=
  List.find?_eq_none.2 fun v hv => by simpa using hn v hv

/-- A report of the executing gap is a result, and one less is awaited. -/
theorem reportRead_running {g : GapRun} (i : Nat) (hn : ∀ v ∈ s.rsq.ended, v.entry.handle ≠ h)
    (hg : s.rsq.gap = some g) (hh : g.handle = h) : reportRead (.gap h i) level metric s =
      { neighbourResult g.owner h i (clampLevel level) s with
        rsq := { s.rsq with gap := some { g with awaiting := g.awaiting - 1 } } } := by
  have hown : gapOwner h s = some g.owner := by simp [gapOwner, findEnded_none hn, hg, hh, Option.filter]
  have hrsq := rsq_neighbourResult g.owner h i (clampLevel level) s
  have hlater : findEnded h (neighbourResult g.owner h i (clampLevel level) s) = none := by
    rw [findEnded, hrsq]; exact findEnded_none hn
  simp only [reportRead, hown, hlater, gapReportRead, hrsq, hg, hh, if_true, updRsq]

/-! ### Faults (R79 to R81, R83) -/

theorem Cmd.kind_probe {c : Cmd} : c.kind = .probe ↔ c = .probe := by cases c <;> simp [Cmd.kind]

theorem treatFault_probe (s : State) : treatFault .probe s = s := rfl

/-- With the link down already a fault is treated, and the link stays down (R83). -/
theorem linkFault_down {c : Cmd} (hout : timedOut s = some c) (hl : s.rsq.link = .radioDown) :
    exec .linkFault s = happened (treatFault c (faulted s)) := by
  have hlink : (treatFault c (faulted s)).rsq.link = .radioDown := (unmoved_treatFault (faulted s) c).1.trans hl
  have hstill : ¬ ((treatFault c (faulted s)).rsq.faults = 3 ∧ (treatFault c (faulted s)).rsq.link = .up) := by simp [hlink]
  show execLinkFault s = _
  simp only [execLinkFault, hout, if_neg hstill]
  rfl

end

/-- Settles O55. -/
theorem reportsAndFaults : Obligations.ReportsAndFaults := by
  refine ⟨fun sent level metric s hr ht => ?_, fun c sent s hr hf ht => ?_⟩
  · intro t lv
    refine ⟨fun h w hf hw => ?_, fun h i g hf hn hg hh => ?_⟩
    · rw [readReportAck_of hr hf ht, reportRead_ended (s := acked s) hw, clampLevel_eq, clampMetric_eq]
      rfl
    · intro u
      rw [readReportAck_of hr hf ht, reportRead_running (s := acked s) i hn hg hh, clampLevel_eq]
      rfl
  · intro counted owed
    have hout := timedOut_of hr hf ht
    refine ⟨fun hn => ?_, fun hn hl => ?_, fun hc hl hn => ?_⟩
    · have hbelow : exec .linkFault s = happened (treatFault c counted) := linkFault_below hout hn
      refine ⟨fun hc => ?_, fun h e ch d i l hc he => ?_, fun h e hc he => ?_, fun hc => ?_, fun hc => ?_⟩
      · rw [← or_assoc, ← or_assoc, Cmd.kind_probe] at hc
        rcases hc with hc | rfl
        · rw [hbelow, treatFault_power (by tauto)]
        · rw [hbelow, treatFault_probe]
      · subst hc
        rw [hbelow, treatFault, abortRadio_found (s := counted) he]
      · subst hc
        rw [hbelow, treatFault, abortRadio_found (s := counted) he]
        rfl
      · rcases hc with rfl | rfl <;> exact hbelow
      · subst hc
        exact hbelow
    · obtain ⟨hline, hbase⟩ := treated_treatFault c (faulted s)
      have hfaults : (treatFault c (faulted s)).rsq.faults = 3 := by
        rw [(unmoved_treatFault (faulted s) c).2, faulted_third hn]
      have hind : (treatFault c (faulted s)).rsq.indicator = true := congrArg Rsq.indicator hline
      have hfree : (treatFault c (faulted s)).rsq.inFlight = none := congrArg Rsq.inFlight hline
      have hlt : (treatFault c (faulted s)).tbu.lt = s.tbu.lt := congrArg Tbu.lt (tbu_of_base hbase)
      have hkept := (base_closedDown (treatFault c (faulted s))).trans hbase
      have hdown := linkFault_third hout hn hl
      rw [radioDown_eq] at hdown
      refine ⟨_, hdown, ?_⟩
      dsimp only
      rw [rsq_closedDown]
      exact ⟨rfl, hfaults, hind, by rw [linkDown, hlt], rfl, rfl, rfl, rfl, hfree, tbu_of_base hkept, cxm_of_base hkept,
        csc_of_base hkept⟩
    · subst hc
      rw [linkFault_down hout hl, treatFault_probe, faulted_third (by omega)]

end Sys2Proof.Machine
end

section
/-! SUPPORT. Acknowledges in time, and the probe time (O54). -/

namespace Sys2Proof.Machine

section
variable {s : State} {c : Cmd} {h : Handle}

/-! ### RCL_ACK (R69, R80) -/

theorem rclAck_named {k : AckKind} (ha : ackable s = some c) (hk : c.kind = ackedKind k) :
    exec (.rclAck k) s = happened (commandAcked c (acked s)) := by
  show execRclAck k s = _
  simp only [execRclAck, ha, if_pos hk]
  rfl

theorem rclAck_other {k : AckKind} (ha : ackable s = some c) (hk : c.kind ≠ ackedKind k) : exec (.rclAck k) s = .next s := by
  show execRclAck k s = _
  simp only [execRclAck, ha, if_neg hk]

theorem ackedKind_off {k : AckKind} : ackedKind k = .off ↔ k = .off := by cases k <;> simp [ackedKind]
theorem ackedKind_powerDown {k : AckKind} : ackedKind k = .powerDown ↔ k = .powerDown := by cases k <;> simp [ackedKind]

/-- Only the acknowledges of OFF and of POWER_DOWN bring more than a free link. -/
theorem commandAcked_plain (ho : c.kind ≠ .off) (hd : c.kind ≠ .powerDown) : commandAcked c s = s := by
  cases c with
  | off t => exact absurd rfl ho
  | powerDown => exact absurd rfl hd
  | _ => rfl

/-! ### The acknowledge of an OFF, by its target (R75, R76, R77) -/

theorem offAcked_ended {w : EndedWindow} (hw : findEnded h s = some w) : offAcked (.ended h) s =
    if w.entry.dir = .tx then handOn w none (dropEnded h s) else demand (.readReport (.ended h)) s := by
  simp only [offAcked, hw]

theorem offAcked_running {g : GapRun} (i : Nat) (hg : s.rsq.gap = some g) (hh : g.handle = h) :
    offAcked (.gap h i) s = demand (.readReport (.gap h i)) s := by
  simp [offAcked, gapAwaits, hg, hh]

theorem offAcked_cut {w : EndedWindow} (hw : findEnded h s = some w) : offAcked (.gapCut h) s = endedReportRead w s := by
  simp only [offAcked, gapConcluded, hw]

/-! ### TRIM_ACK and PROBE_ACK (R83, R84) -/

theorem trimAck_of {w : BitVec 13} (ha : ackable s = some (.trim w)) : exec .trimAck s =
    happened { acked s with tbu := { s.tbu with
      delivered := if w = s.tbu.trimWord then true else s.tbu.delivered } } := by
  show execTrimAck s = _
  simp only [execTrimAck, ha]
  split <;> rfl

theorem probeAck_of (ha : ackable s = some .probe) : exec .probeAck s = happened (radioUp (acked s)) := by
  show execProbeAck s = _
  simp only [execProbeAck, ha]
  rfl

theorem isProbe_iff {c : Cmd} : isProbe c = true ↔ c = .probe := by cases c <;> simp [isProbe]

/-- POWER_UP is sent: the record READY and settled-at set, with STANDBY behind it where it is asked for and the CSC is not
ACTIVE (R70, R72). -/
theorem send_powerUp (fromDown thenStandby : Bool) (s : State) : send (.powerUp fromDown thenStandby) s =
    { s with rsq := { s.rsq with
        record := .ready, settledAt := settledAfter s.rsq fromDown s.tbu.lt,
        inFlight := some (.powerUp fromDown thenStandby, s.tbu.lt),
        waiting := if thenStandby = true ∧ s.power.state ≠ .active then s.rsq.waiting ++ [.standby]
                   else s.rsq.waiting } } := by
  have hwait : (if (thenStandby && s.power.state != .active) = true then s.rsq.waiting ++ [Cmd.standby] else s.rsq.waiting) =
      if thenStandby = true ∧ s.power.state ≠ .active then s.rsq.waiting ++ [.standby] else s.rsq.waiting := by simp
  rw [← hwait]
  rfl

theorem notifyAll_eq (b : NoticeBody) (s : State) :
    let n : Notice := { body := b, sub := none, stamp := s.tbu.lt }
    notifyAll b s = { s with queues := ((s.queues.upd .A (·.push n)).upd .B (·.push n)).upd .P (·.push n) } := by
  simp only [notifyAll, notifyBare, giveNotice, now]

/-- The link is UP again, told to the three ports in `u`: the choice of power, POWER_UP at once, and the word to be sent
again (R83). -/
theorem radioUp_eq {u : State} (hu : notifyAll (.radioUp s.rsq.probes) (linkUp s) = u) : radioUp s =
    { choosePower u with
      tbu := { u.tbu with delivered := false },
      rsq := { (choosePower u).rsq with
        record := .ready, settledAt := some (u.tbu.lt + BitVec.ofNat 48 52000),
        inFlight := some (.powerUp true true, u.tbu.lt),
        waiting := if (choosePower u).power.state = .active then (choosePower u).rsq.waiting
                   else (choosePower u).rsq.waiting ++ [.standby] } } := by
  have htbu : (choosePower u).tbu = u.tbu := tbu_of_base (base_choosePower u)
  have hwait : ∀ l : List Cmd, (if true = true ∧ (choosePower u).power.state ≠ .active then l ++ [.standby] else l) =
      if (choosePower u).power.state = .active then l else l ++ [.standby] := fun l => by
    by_cases ha : (choosePower u).power.state = .active <;> simp [ha]
  rw [radioUp, hu, send_powerUp, updTbu, htbu, hwait]
  rfl

end

/-- Settles O54. -/
theorem linkAcknowledges : Obligations.LinkAcknowledges := by
  refine ⟨fun c sent s hr hf ht => ?_, fun d s hr hl hd ht hw => ?_⟩
  · have ha := ackable_of hr hf ht
    intro freed t
    refine ⟨fun k hk => ?_, fun k hk ho hd => ?_, fun hc => ?_, fun hc => ?_, fun hc => ?_,
      fun h w hc hw => ?_, fun h i g hc hg hh => ?_, fun w hc => ?_, fun hc => ?_, fun h w hc hw => ?_⟩
    · exact rclAck_other ha hk
    · have hoff : c.kind ≠ .off := fun h => ho (ackedKind_off.1 (hk.symm.trans h))
      have hdown : c.kind ≠ .powerDown := fun h => hd (ackedKind_powerDown.1 (hk.symm.trans h))
      rw [rclAck_named ha hk, commandAcked_plain hoff hdown]
      rfl
    · subst hc
      exact rclAck_named (c := .powerDown) ha rfl
    · subst hc
      exact rclAck_named (c := .off .none) ha rfl
    · subst hc
      exact rclAck_named (c := .off .recovery) ha rfl
    · subst hc
      rw [rclAck_named ha rfl, commandAcked, offAcked_ended (s := acked s) hw]
      rfl
    · subst hc
      rw [rclAck_named ha rfl, commandAcked, offAcked_running (s := acked s) i hg hh]
      rfl
    · subst hc
      exact trimAck_of ha
    · subst hc
      intro n up v rsq
      have hup : notifyAll (.radioUp (acked s).rsq.probes) (linkUp (acked s)) = up := notifyAll_eq _ _
      rw [probeAck_of ha, radioUp_eq hup]
    · subst hc
      rw [rclAck_named ha rfl, commandAcked, offAcked_cut (s := acked s) hw,
        endedReportRead_eq (handle_of_findEnded (s := s) hw)]
      rfl
  · have hdue : probeDue s = true := by
      have hno : s.rsq.waiting.any isProbe = false := List.any_eq_false.2 fun c hc hp => hw (isProbe_iff.1 hp ▸ hc)
      have hreached : ltReached (now s) d = true := ht
      simp [probeDue, hr, hl, hd, reachedBy, hno, hreached]
    exact if_pos hdue

end Sys2Proof.Machine
end

section
/-! SUPPORT. The windows of a gap: its start, the instants of its windows, and its local end (O51). -/

namespace Sys2Proof.Machine

theorem demand_up {c : Cmd} {s : State} (hl : s.rsq.link = .up) :
    demand c s = { s with rsq := { s.rsq with waiting := s.rsq.waiting ++ [c] } } := if_pos hl

section
variable {e : Entry} {g : GapRun} {s : State}

/-! ### The start (R74, R76, R134) -/

/-- The records a gap that starts now takes, and where its scan stops (R134). -/
def gapScan (e : Entry) (s : State) : List Taken × Nat × Nat :=
  scan (s.msu.get e.owner).settings (s.msu.get e.owner).ring (s.msu.get e.owner).ring.length
    (gapRoom e.length s.air.gRetune) (s.msu.get e.owner).pointer (s.msu.get e.owner).round

/-- The sub-window of a gap that has just started: the first window's TUNE is due with its start (R76). -/
def begunGap (e : Entry) (s : State) : GapRun :=
  { handle := e.handle, owner := e.owner, count := (gapScan e s).1.length, guard := s.air.gRetune, index := 0,
    stage := if (gapScan e s).1.length = 0 then .tuneDue else .onDue, awaiting := 0 }

/-- The TUNE of a gap's first window, where it has one. -/
def firstTune (e : Entry) : List Taken → List Cmd
  | t :: _ => [.tune (.gap e.handle 0) t.channel .rx none none]
  | [] => []

theorem selectNeighbours_selection (e : Entry) (s : State) :
    (selectNeighbours e s.air.gRetune s).selection = s.selection.set e.owner (some
      { handle := e.handle, list := (gapScan e s).1, next := 0, stopPosition := (gapScan e s).2.1,
        stopRound := (gapScan e s).2.2, void := startsVoid e s }) := rfl

theorem windowChannel_some {x : Subscription} {i : Nat} {r : Selection} {t : Taken} (hr : s.selection.get x = some r)
    (ht : r.list[i]? = some t) : windowChannel x i s = some t.channel := by
  simp [windowChannel, hr, ht]

theorem tuneWindow_named {ch : Nat} (h : windowChannel g.owner g.index s = some ch) : tuneWindow g s =
    demand (.tune (.gap g.handle g.index) ch .rx none none)
      { s with rsq := { s.rsq with gap := some { g with stage := .onDue } } } := by
  rw [tuneWindow, h]
  rfl

/-- The start of a gap: the selection, and the first window's TUNE (R76, R134). -/
theorem startGap_eq (hl : s.rsq.link = .up) : startGap e s =
    { selectNeighbours e s.air.gRetune s with
      rsq := { s.rsq with waiting := s.rsq.waiting ++ firstTune e (gapScan e s).1, gap := some (begunGap e s) } } := by
  have hcount : ((((selectNeighbours e s.air.gRetune s).selection.get e.owner).map
      (fun r => r.list.length)).getD 0) = (gapScan e s).1.length := by
    rw [selectNeighbours_selection, PerSub.get_set_self]; rfl
  rw [startGap]
  dsimp only
  rw [hcount, begunGap]
  cases hscan : (gapScan e s).1 with
  | nil =>
    rw [firstTune, List.append_nil]
    rfl
  | cons t l =>
    have hchannel : ∀ r : Rsq, windowChannel e.owner 0 { selectNeighbours e s.air.gRetune s with rsq := r } =
        some t.channel := fun r =>
      windowChannel_some
        ((congrArg (·.get e.owner) (selectNeighbours_selection e s)).trans (PerSub.get_set_self _ _ _))
        (by rw [hscan]; rfl)
    rw [List.length_cons, if_neg (Nat.succ_ne_zero _), tuneWindow_named (ch := t.channel) (hchannel _), demand_up]
    · rfl
    · exact hl

theorem plan_startedGap (e : Entry) (s : State) :
    (selectNeighbours e s.air.gRetune (modifyEntry e.handle (fun f => { f with state := .executing }) s)).plan =
      s.plan.map (fun f => if f.handle = e.handle then
        { f with state := .executing, measureList := some ((gapScan e s).1.map (·.position)) } else f) := by
  have htwice : (selectNeighbours e s.air.gRetune (modifyEntry e.handle (fun f => { f with state := .executing }) s)).plan =
      (s.plan.map fun f => if f.handle == e.handle then { f with state := .executing } else f).map fun f =>
        if f.handle == e.handle then { f with measureList := some ((gapScan e s).1.map (·.position)) } else f := rfl
  rw [htwice, List.map_map]
  refine List.map_congr_left fun f _ => ?_
  by_cases h : f.handle = e.handle <;> simp [h]

theorem startDue_some (hr : ltRuns s = true) (hn : ∀ f ∈ s.plan, f.state ≠ .executing)
    (hf : s.plan.find? (fun f => f.state == .preparing) = some e) (ht : ltReached s.tbu.lt e.start = true) :
    startDue s = some e := by
  have hx : executingEntry s = none := List.find?_eq_none.2 fun f hf => by simpa using hn f hf
  have hp : preparedEntry s = some e := hf
  have ht' : ltReached (now s) e.start = true := ht
  simp [startDue, hr, hx, hp, Option.filter, ht']

theorem entryStart_gap (hd : startDue s = some e) (hk : e.kind = .measureGap) : exec .entryStart s =
    happened (startGap e (modifyEntry e.handle (fun f => { f with state := .executing }) s)) := by
  show execEntryStart s = _
  simp only [execEntryStart, hd, startEntry, if_pos hk]
  rfl

/-! ### The instants of a window (R76) -/

theorem fittingGap_some (hr : ltRuns s = true) (hg : s.rsq.gap = some g) (hf : findEntry g.handle s = some e)
    (hi : g.index < g.count) (hfit : gapFits e g = true) : fittingGap s = some (e, g) := by
  simp [fittingGap, runningGap, hg, hf, Option.filter, hr, hi, hfit]

theorem gapTuneDue_some (hfit : fittingGap s = some (e, g)) (hst : g.stage = .tuneDue)
    (ht : ltReached (now s) (gapTuneAt e g) = true) : gapTuneDue s = some g := by
  simp [gapTuneDue, hfit, Option.filter, hst, ht]

theorem gapOnDue_some (hfit : fittingGap s = some (e, g)) (hst : g.stage = .onDue)
    (ht : ltReached (now s) (gapOnAt e g) = true) : gapOnDue s = some g := by
  simp [gapOnDue, hfit, Option.filter, hst, ht]

theorem gapCloseDue_some (hfit : fittingGap s = some (e, g)) (hst : g.stage = .opened)
    (ht : ltReached (now s) (gapCloseAt e g) = true) : gapCloseDue s = some g := by
  simp [gapCloseDue, hfit, Option.filter, hst, ht]

theorem gapWindowTune_of (h : gapTuneDue s = some g) : exec .gapWindowTune s = happened (tuneWindow g s) := by
  show execGapWindowTune s = _
  simp only [execGapWindowTune, h]
  rfl
theorem gapWindowOn_of (h : gapOnDue s = some g) : exec .gapWindowOn s = happened (openWindow g s) := by
  show execGapWindowOn s = _
  simp only [execGapWindowOn, h]
  rfl
theorem gapWindowEnd_of (h : gapCloseDue s = some g) : exec .gapWindowEnd s = happened (closeWindow g s) := by
  show execGapWindowEnd s = _
  simp only [execGapWindowEnd, h]
  rfl

/-! ### The local end (R75, R77) -/

theorem endDue_some (hr : ltRuns s = true) (hf : s.plan.find? (fun f => f.state == .executing) = some e)
    (ht : ltReached s.tbu.lt e.stop = true) : endDue s = some e := by
  have hx : executingEntry s = some e := hf
  have ht' : ltReached (now s) e.stop = true := ht
  simp [endDue, hr, hx, Option.filter, ht']

theorem entryEnd_gap (hd : endDue s = some e) (hk : e.kind = .measureGap) : exec .entryEnd s = happened (endGap e s) := by
  show execEntryEnd s = _
  simp only [execEntryEnd, hd, endEntry, if_pos hk]
  rfl

/-- No window closes at this instant: none is open, or the open one does not fit before the local end. -/
theorem gapCloseDue_none (hg : s.rsq.gap = some g) (hf : findEntry g.handle s = some e)
    (h : g.count ≤ g.index ∨ g.stage ≠ .opened ∨ gapFits e g = false) : gapCloseDue s = none := by
  have hrun : runningGap s = some (e, g) := by simp [runningGap, hg, hf]
  rw [gapCloseDue, fittingGap, hrun]
  cases hfits : ltRuns s && decide (g.index < g.count) && gapFits e g with
  | false => simp [Option.filter, hfits]
  | true =>
    simp only [Bool.and_eq_true, decide_eq_true_eq] at hfits
    obtain ⟨⟨hr, hi⟩, hfit⟩ := hfits
    have hst : g.stage ≠ .opened := h.elim (fun hle => absurd hi (Nat.not_lt.2 hle)) fun h =>
      h.elim id fun hno => absurd (hfit.symm.trans hno) nofun
    simp [Option.filter, hr, hi, hfit, hst]

theorem gapAwaiting_eq (hg : s.rsq.gap = some g) (hh : g.handle = e.handle) : gapAwaiting e s = g.awaiting := by
  simp [gapAwaiting, hg, hh, Option.filter]

theorem gapOpen_false (hg : s.rsq.gap = some g) (h : g.count ≤ g.index ∨ g.stage ≠ .opened) : gapOpen e s = false := by
  rcases h with h | h <;> simp [gapOpen, hg, h]

@[simp] theorem gap_demand (c : Cmd) (s : State) : (demand c s).rsq.gap = s.rsq.gap := by
  unfold demand; split <;> rfl

/-- With no window open the gap leaves, its outcome waiting for the reports still to come. -/
theorem endGap_shut (hg : s.rsq.gap = some g) (hh : g.handle = e.handle) (hc : gapCloseDue s = none)
    (h : g.count ≤ g.index ∨ g.stage ≠ .opened) : endGap e s = leaveGap e g.awaiting s := by
  simp only [endGap, hc, gapOpen_false hg h, gapAwaiting_eq hg hh, Bool.false_eq_true, if_false]

/-- A window still open at a truncated end is closed with OFF, which the outcome waits for (log 14). -/
theorem endGap_open (hg : s.rsq.gap = some g) (hh : g.handle = e.handle) (hc : gapCloseDue s = none)
    (hi : g.index < g.count) (hst : g.stage = .opened) :
    endGap e s = leaveGap e (g.awaiting + 1) (demand (.off (.gapCut e.handle)) s) := by
  have hop : gapOpen e s = true := (gapOpen_iff e s).2 ⟨g, hg, hh, hst, hi⟩
  simp only [endGap, hc, hop, gapAwaiting_eq hg hh, if_true]

/-- A window that closes at this very instant is closed first (R76). -/
theorem endGap_closing (hh : g.handle = e.handle) (hc : gapCloseDue s = some g) :
    endGap e s = leaveGap e (g.awaiting + 1) (closeWindow g s) := by
  have hgap : (closeWindow g s).rsq.gap =
      some { g with index := g.index + 1, stage := .tuneDue, awaiting := g.awaiting + 1 } := by
    rw [closeWindow, gap_demand]; rfl
  simp only [endGap, hc, gapOpen_false hgap (.inr nofun), gapAwaiting_eq hgap hh, Bool.false_eq_true, if_false]

end

/-- Settles O51. -/
theorem gapWindows : Obligations.GapWindows := by
  intro e s hr hk x m g0 sel n heldVoid begun pointer tune
  refine ⟨fun hn hf ht hl => ?_, fun g r t hg hf hi hsel htk => ?_, fun g hf ht hg hh hfg => ?_⟩
  · have hstart := entryStart_gap (startDue_some hr hn hf ht) hk
    refine ⟨_, hstart, ?_⟩
    rw [startGap_eq (s := modifyEntry e.handle (fun f => { f with state := .executing }) s) hl]
    exact ⟨rfl, rfl, rfl, plan_startedGap e s⟩
  · intro tuneAt onAt closeAt run hfit
    have hgap := fittingGap_some hr hg hf hi hfit
    refine ⟨fun hst ht => ?_, fun hst ht => ?_, fun hst ht => ?_⟩
    · rw [gapWindowTune_of (gapTuneDue_some hgap hst ht), tuneWindow_named (windowChannel_some hsel htk)]
    · rw [gapWindowOn_of (gapOnDue_some hgap hst ht)]
      rfl
    · rw [gapWindowEnd_of (gapCloseDue_some hgap hst ht)]
      rfl
  · intro w waiting
    have hend := entryEnd_gap (endDue_some hr hf ht) hk
    refine ⟨fun h => ?_, fun hi hst hfit => ?_, fun hi hst => ?_⟩
    · rw [hend, endGap_shut hg hh (gapCloseDue_none hg hfg (h.imp_right .inl)) h]
      by_cases h0 : g.awaiting = 0
      · rw [if_pos h0, leaveGap, if_pos h0, h0]
        rfl
      · rw [if_neg h0, leaveGap, if_neg h0]
        rfl
    · rw [hend, endGap_open hg hh (gapCloseDue_none hg hfg (.inr (.inr hfit))) hi hst]
      rfl
    · intro closeAt hfit ht closed
      rw [hend, endGap_closing hh (gapCloseDue_some (fittingGap_some hr hg hfg hi hfit) hst ht)]
      rfl

end Sys2Proof.Machine
end

section
/-! SUPPORT. The sending of commands on the link (O53): the instants that hold it back, the command chosen, what its sending
changes. -/

namespace Sys2Proof.Machine

/-! ### Events of the device's own that are due (log 39) -/

section
variable {s : State} {i : Instr}

theorem requestOf_of_rowOf {q : Port} {r : Request} (h : rowOf q r = some i) : requestOf i ≠ none := by
  unfold rowOf at h
  split at h <;> cases h <;> exact Option.some_ne_none _

theorem requestOf_of_requestRow {q : Port} (h : i ∈ requestRow q s) : requestOf i ≠ none := by
  unfold requestRow at h
  split at h
  · exact requestOf_of_rowOf (Option.mem_toList.1 h)
  · cases h

theorem mem_rowIf {b : Bool} {j : Instr} : i ∈ rowIf b j ↔ b = true ∧ i = j := by cases b <;> simp [rowIf]

theorem mem_allPassed (p : Passed) : p ∈ allPassed := by
  cases p with
  | frame x | exchange x | lease x | confirm x => cases x <;> decide
  | lost x k => cases x <;> cases k <;> decide
  | _ => decide

/-- The events that are due while LT runs, requests apart. -/
theorem mem_dueRows (hr : ltRuns s = true) (hq : requestOf i = none) :
    i ∈ dueRows s ↔ i ∈ sequenceRows s ∨ ∃ p, isPassed s p = true ∧ passedRow p = i := by
  have hno : ∀ q, i ∉ requestRow q s := fun q h => requestOf_of_requestRow h hq
  simp [dueRows, hr, hno, mem_allPassed]

/-- The frame start or deadline that a row stands for. -/
def passedOf : Instr → Option Passed
  | .frameStart x => some (.frame x)
  | .fallbackFrameStart => some .fallback
  | .exchangeDeadline x => some (.exchange x)
  | .leaseDeadline x => some (.lease x)
  | .confirmDeadline x => some (.confirm x)
  | .lostOccurrenceEnd x k => some (.lost x k)
  | .probeTime => some .probe
  | .calDue => some .cal
  | .wakeTarget => some .wake
  | _ => none

theorem passedOf_passedRow (p : Passed) : passedOf (passedRow p) = some p := by cases p <;> rfl

theorem passedRow_ne {p : Passed} (h : passedOf i = none) : passedRow p ≠ i := by
  rintro rfl
  rw [passedOf_passedRow] at h
  cases h

theorem mem_dueRows_sequence (hr : ltRuns s = true) (hq : requestOf i = none) (hp : passedOf i = none) :
    i ∈ dueRows s ↔ i ∈ sequenceRows s := by
  simp [mem_dueRows hr hq, passedRow_ne hp]

theorem passedRow_eq_iff {p p' : Passed} : passedRow p = passedRow p' ↔ p = p' :=
  ⟨fun h => Option.some.inj (by rw [← passedOf_passedRow, h, passedOf_passedRow]), congrArg passedRow⟩

theorem passedOf_of_sequence (h : i ∈ sequenceRows s) : passedOf i = none := by
  simp only [sequenceRows, List.mem_append, mem_rowIf, or_assoc] at h
  rcases h with ⟨-, rfl⟩ | ⟨-, rfl⟩ | ⟨-, rfl⟩ | ⟨-, rfl⟩ | ⟨-, rfl⟩ | ⟨-, rfl⟩ | ⟨-, rfl⟩ | ⟨-, rfl⟩ <;> rfl

theorem passedRow_mem_dueRows (hr : ltRuns s = true) (p : Passed) : passedRow p ∈ dueRows s ↔ isPassed s p = true := by
  have hq : requestOf (passedRow p) = none := by cases p <;> rfl
  have hseq : passedRow p ∉ sequenceRows s := fun h => passedRow_ne (passedOf_of_sequence h) rfl
  simp [mem_dueRows hr hq, hseq, passedRow_eq_iff]

/-- The instants of the plan and of a gap's windows that may bring a command. -/
theorem windowRows_mem_dueRows (hr : ltRuns s = true) :
    (.entryStart ∈ dueRows s ↔ (startDue s).isSome = true) ∧ (.entryEnd ∈ dueRows s ↔ (endDue s).isSome = true) ∧
    (.gapWindowTune ∈ dueRows s ↔ (gapTuneDue s).isSome = true) ∧ (.gapWindowOn ∈ dueRows s ↔ (gapOnDue s).isSome = true) ∧
    (.gapWindowEnd ∈ dueRows s ↔ (gapCloseDue s).isSome = true) := by
  refine ⟨?_, ?_, ?_, ?_, ?_⟩ <;> rw [mem_dueRows_sequence hr rfl rfl] <;> simp [sequenceRows, mem_rowIf]

theorem cutDue_iff (hr : ltRuns s = true) (x : Subscription) : cutDue x s = true ↔
    .frameStart x ∈ dueRows s ∨ .confirmDeadline x ∈ dueRows s ∨ .leaseDeadline x ∈ dueRows s ∨
      ∃ k, .lostOccurrenceEnd x k ∈ dueRows s := by
  have hf := passedRow_mem_dueRows hr (.frame x)
  have hc := passedRow_mem_dueRows hr (.confirm x)
  have hl := passedRow_mem_dueRows hr (.lease x)
  have hk := fun k => passedRow_mem_dueRows hr (.lost x k)
  simp only [passedRow, isPassed] at hf hc hl hk
  have hpat : (∃ k, (lostDue x k s).isSome = true) ↔ (lostDue x .page s).isSome = true ∨ (lostDue x .call s).isSome = true ∨
      (lostDue x .meas s).isSome = true :=
    ⟨fun ⟨k, h⟩ => by cases k <;> simp [h], fun h => h.elim (⟨_, ·⟩) fun h => h.elim (⟨_, ·⟩) (⟨_, ·⟩)⟩
  simp only [hf, hc, hl, hk, hpat, cutDue, Bool.or_eq_true, or_assoc]

theorem instantDue_iff (hr : ltRuns s = true) : instantDue s = true ↔ ∃ i ∈ dueRows s,
    i = .entryStart ∨ i = .entryEnd ∨ i = .gapWindowTune ∨ i = .gapWindowOn ∨ i = .gapWindowEnd ∨ i = .wakeTarget ∨
    i = .probeTime ∨ ∃ x, i = .frameStart x ∨ i = .confirmDeadline x ∨ i = .leaseDeadline x ∨
      ∃ k, i = .lostOccurrenceEnd x k := by
  obtain ⟨hs, he, ht, ho, hc⟩ := windowRows_mem_dueRows hr
  have hw := passedRow_mem_dueRows hr .wake
  have hp := passedRow_mem_dueRows hr .probe
  simp only [passedRow, isPassed] at hw hp
  have hx : (∃ x, cutDue x s = true) ↔ cutDue .A s = true ∨ cutDue .B s = true :=
    ⟨fun ⟨x, h⟩ => by cases x <;> simp [h], fun h => h.elim (⟨_, ·⟩) (⟨_, ·⟩)⟩
  have hcut := hx.symm.trans (exists_congr (cutDue_iff hr))
  simp only [instantDue, Bool.or_eq_true, or_assoc, hcut, ← hs, ← he, ← ht, ← ho, ← hc, ← hw, ← hp]
  constructor
  · rintro (h | h | h | h | h | h | h | ⟨x, h | h | h | ⟨k, h⟩⟩) <;> exact ⟨_, h, by simp⟩
  · rintro ⟨i, h, rfl | rfl | rfl | rfl | rfl | rfl | rfl | ⟨x, hx⟩⟩
    iterate 7 simp only [h, true_or, or_true]
    have hsub : .frameStart x ∈ dueRows s ∨ .confirmDeadline x ∈ dueRows s ∨ .leaseDeadline x ∈ dueRows s ∨
        ∃ k, .lostOccurrenceEnd x k ∈ dueRows s := by
      rcases hx with rfl | rfl | rfl | ⟨k, rfl⟩
      exacts [.inl h, .inr (.inl h), .inr (.inr (.inl h)), .inr (.inr (.inr ⟨k, h⟩))]
    exact .inr (.inr (.inr (.inr (.inr (.inr (.inr ⟨x, hsub⟩))))))

end

/-! ### The command that is sent (R69) -/

section
variable {r : Rsq} {c : Cmd} {before after : List Cmd}

/-- The first of the lowest order among the waiting commands that may be sent is the one chosen (R69, log 46). -/
theorem pickCmd_of (hc : sendable r c = true) (hb : ∀ d ∈ before, sendable r d = true → c.rank < d.rank)
    (ha : ∀ d ∈ after, sendable r d = true → c.rank ≤ d.rank) : pickCmd r (before ++ c :: after) = some c := by
  induction before with
  | nil =>
    rw [List.nil_append, pickCmd]
    cases hp : pickCmd r after with
    | none => exact if_pos hc
    | some d =>
      obtain ⟨hd, b, a, rfl, -⟩ := pickCmd_some hp
      have hle : ¬ d.rank < c.rank := Nat.not_lt.2 (ha d (by simp) hd)
      simp only [hc, if_true, if_neg hle]
  | cons d before ih =>
    have hrest := ih fun e he => hb e (List.mem_cons_of_mem _ he)
    rw [List.cons_append, pickCmd, hrest]
    dsimp only
    split
    · rename_i hd
      rw [if_pos (hb d List.mem_cons_self hd)]
    · rfl

theorem any_isTuneOf (t : Target) (l : List Cmd) : l.any (isTuneOf t) = false ↔ ∀ ch d i v, .tune t ch d i v ∉ l := by
  have hiff : ∀ k, isTuneOf t k = true ↔ ∃ ch d i v, k = .tune t ch d i v := fun k => by
    cases k <;> simp [isTuneOf]
  rw [List.any_eq_false]
  constructor
  · exact fun h ch d i v hm => h _ hm ((hiff _).2 ⟨ch, d, i, v, rfl⟩)
  · intro h k hk ht
    obtain ⟨ch, d, i, v, rfl⟩ := (hiff k).1 ht
    exact h ch d i v hk

/-- Which commands may be sent now (R68, R69, R82). -/
theorem sendable_iff : sendable r c = true ↔ c = .probe ∨ (r.link = .up ∧
    (c.kind = .off ∨ c.kind = .on ∨ c.kind = .readReport ∨ c.kind = .tune → r.record = .ready) ∧
    ∀ t, c = .on t → ∀ ch d i v, .tune t ch d i v ∉ r.waiting) := by
  cases c with
  | on t =>
    simp only [sendable, Bool.and_eq_true, beq_iff_eq, Bool.not_eq_true', any_isTuneOf, Cmd.kind, reduceCtorEq, false_or,
      true_or, or_true, forall_const, Cmd.on.injEq, forall_eq', and_assoc]
  | _ => simp [sendable, Cmd.kind]

/-- A power command is redundant only while the link is UP, where alone it may be sent (R71, R82). -/
theorem link_of_redundant (hs : sendable r c = true) (hr : redundant r c = true) : r.link = .up := by
  cases c <;> simp_all [sendable, redundant]

end

/-! ### Sending (R69 to R72, R84) -/

section
variable {s : State} {c : Cmd}

/-- The link is free, LT runs, and no instant of this LT that may bring a command is still to be taken (R69, log 39). -/
structure LinkFree (s : State) : Prop where
  runs : ltRuns s = true
  idle : s.rsq.inFlight = none
  still : instantDue s = false

/-- A recovery OFF is owed and may be sent (R80). -/
def owesRecovery (s : State) : Bool := s.rsq.recoveryOwed && s.rsq.link == .up && s.rsq.record == .ready

/-- The state with a waiting command taken from the queue. -/
def withoutCmd (c : Cmd) (s : State) : State := { s with rsq := { s.rsq with waiting := s.rsq.waiting.erase c } }

/-- The state once a redundant power command has been passed over (R71, R72). -/
def passedOver (c : Cmd) (s : State) : State :=
  if c = .powerDown then answerSlumber (withoutCmd c s) else withoutCmd c s

theorem dispatch_busy (h : ¬ LinkFree s) : dispatch s = s := by
  refine if_neg fun hf => h ?_
  simp only [Bool.and_eq_true, Option.isNone_iff_eq_none, Bool.not_eq_true'] at hf
  exact ⟨hf.1.1, hf.1.2, hf.2⟩

theorem dispatch_free (h : LinkFree s) : dispatch s = dispatchLoop (s.rsq.waiting.length + 1) s :=
  if_pos (by simp [h.runs, h.idle, h.still])

theorem dispatch_recovery (h : LinkFree s) (ho : owesRecovery s = true) : dispatch s = send (.off .recovery) s := by
  rw [dispatch_free h, dispatchLoop]
  exact if_pos ho

theorem dispatch_none (h : LinkFree s) (ho : owesRecovery s = false) (hp : pickCmd s.rsq s.rsq.waiting = none) :
    dispatch s = if trimServed s then send (.trim s.tbu.trimWord) s else s := by
  have ho' : (s.rsq.recoveryOwed && s.rsq.link == .up && s.rsq.record == .ready) = false := ho
  rw [dispatch_free h, dispatchLoop, ho', hp]
  rfl

/-- While the link is UP no instant is brought on or taken away by a command that leaves the queue. -/
theorem instantDue_passedOver (hl : s.rsq.link = .up) : instantDue (passedOver c s) = instantDue s := by
  have hprobe : ∀ u : State, u.rsq.link = .up → probeDue u = false := fun u hu => by simp [probeDue, hu]
  unfold passedOver
  split
  · rw [instantDue, instantDue, hprobe s hl, hprobe (answerSlumber (withoutCmd c s)) hl]
    rfl
  · rw [instantDue, instantDue, hprobe s hl, hprobe (withoutCmd c s) hl]
    rfl

theorem linkFree_passedOver (h : LinkFree s) (hl : s.rsq.link = .up) : LinkFree (passedOver c s) where
  runs := by unfold passedOver; split <;> exact h.runs
  idle := by unfold passedOver; split <;> exact h.idle
  still := (instantDue_passedOver hl).trans h.still

theorem length_passedOver (hm : c ∈ s.rsq.waiting) : (passedOver c s).rsq.waiting.length + 1 = s.rsq.waiting.length := by
  have hlen : (passedOver c s).rsq.waiting = s.rsq.waiting.erase c := by unfold passedOver; split <;> rfl
  rw [hlen, List.length_erase_add_one hm]

/-- The chosen command is sent, or passed over where it is redundant (R71, log 11). -/
theorem dispatch_picked (h : LinkFree s) (ho : owesRecovery s = false) (hp : pickCmd s.rsq s.rsq.waiting = some c) :
    dispatch s = if redundant s.rsq c = true then dispatch (passedOver c s) else send c (withoutCmd c s) := by
  have ho' : (s.rsq.recoveryOwed && s.rsq.link == .up && s.rsq.record == .ready) = false := ho
  obtain ⟨hs, b, a, hw, -⟩ := pickCmd_some hp
  have hm : c ∈ s.rsq.waiting := by simp [hw]
  rw [dispatch_free h, dispatchLoop, ho', hp]
  simp only [Bool.false_eq_true, if_false]
  split
  · rename_i hr
    rw [dispatch_free (linkFree_passedOver h (link_of_redundant hs hr)), length_passedOver hm]
    rfl
  · rfl

theorem send_plain (hc : c.kind = .off ∨ c.kind = .on ∨ c.kind = .readReport ∨ c.kind = .tune ∨ c.kind = .trim) :
    send c s = { s with rsq := { s.rsq with inFlight := some (c, s.tbu.lt) } } := by
  cases c with
  | powerUp | standby | powerDown | probe => simp [Cmd.kind] at hc
  | _ => rfl

theorem redundant_plain {r : Rsq}
    (hc : c.kind = .off ∨ c.kind = .on ∨ c.kind = .readReport ∨ c.kind = .tune ∨ c.kind = .trim) :
    redundant r c = false := by
  cases c with
  | powerUp | standby | powerDown => simp [Cmd.kind] at hc
  | _ => rfl

theorem passedOver_of (hc : c ≠ .powerDown) : passedOver c s = withoutCmd c s := if_neg hc
theorem passedOver_powerDown : passedOver .powerDown s = answerSlumber (withoutCmd .powerDown s) := if_pos rfl

/-! ### Settled-at (R70) -/

variable {r : Rsq} {fromDown : Bool} {lt : LT}

theorem settledAfter_down (h : fromDown = true ∨ r.record = .down) :
    settledAfter r fromDown lt = some (lt + BitVec.ofNat 48 52000) := by
  have hc : (fromDown || r.record == .down) = true := by simpa using h
  exact if_pos hc

theorem settledAfter_standby (hd : fromDown = false) (hr : r.record = .standby) : settledAfter r fromDown lt =
    match r.settledAt with
    | some u => some (if ltReached u (lt + BitVec.ofNat 48 13000) = true then u else lt + BitVec.ofNat 48 13000)
    | none => some (lt + BitVec.ofNat 48 13000) := by
  subst hd
  unfold settledAfter
  rw [hr]
  rfl

theorem redundant_powerUp {b : Bool} (h : fromDown = true ∨ r.record ≠ .ready) :
    redundant r (.powerUp fromDown b) = false := by
  simpa [redundant, imp_iff_not_or, or_comm] using h

end

/-- Settles O53. -/
theorem commandsAreSentInOrder : Obligations.CommandsAreSentInOrder := by
  refine ⟨fun c s => ⟨demand_up, fun hl => if_neg (by simp [hl])⟩, fun s hr => instantDue_iff hr, fun s => ?_⟩
  intro r free owes window may order sent
  have hfree : free ↔ LinkFree s := ⟨fun ⟨h1, h2, h3⟩ => ⟨h1, h2, h3⟩, fun h => ⟨h.runs, h.idle, h.still⟩⟩
  have howes : owes ↔ owesRecovery s = true := by simp [owes, r, owesRecovery, and_assoc]
  have hmay : ∀ c, may c ↔ sendable r c = true := fun c => sendable_iff.symm
  have horder : ∀ c, order c = c.rank + 1 := fun c => by cases c <;> rfl
  refine ⟨fun h => dispatch_busy (mt hfree.2 h), fun h ho => dispatch_recovery (hfree.1 h) (howes.1 ho),
    fun c before after h ho hw hc hb ha => ?_, fun h ho hn => ?_⟩
  · intro rest passed
    have hpick : pickCmd s.rsq s.rsq.waiting = some c := by
      refine (congrArg (pickCmd r) hw).trans (pickCmd_of ((hmay c).1 hc) (fun d hd hs => ?_) fun d hd hs => ?_)
      · have := hb d hd ((hmay d).2 hs)
        rw [horder, horder] at this
        omega
      · have := ha d hd ((hmay d).2 hs)
        rw [horder, horder] at this
        omega
    have hfirst : c ∉ before := fun hm => lt_irrefl _ (hb c hm hc)
    have hpassed : withoutCmd c s = passed := by
      have herase : s.rsq.waiting.erase c = before ++ after := by
        rw [show s.rsq.waiting = before ++ c :: after from hw, List.erase_append_right _ hfirst, List.erase_cons_head]
      rw [withoutCmd, herase]
    have hsend := dispatch_picked (hfree.1 h) (Bool.eq_false_iff.2 (mt howes.2 ho)) hpick
    rw [hpassed] at hsend
    refine ⟨fun hk => ?_, fun hk => ?_, fun hk => ?_, fun hk => ?_, fun fromDown thenStandby hk => ?_⟩
    · have hplain : c.kind = .off ∨ c.kind = .on ∨ c.kind = .readReport ∨ c.kind = .tune ∨ c.kind = .trim := by
        simpa only [window, or_assoc] using hk
      rw [hsend, if_neg (by rw [redundant_plain hplain]; exact nofun), send_plain hplain]
    · subst hk
      exact hsend
    · subst hk
      rw [hsend, passedOver_of (c := .standby) nofun, hpassed]
      exact if_congr beq_iff_eq rfl rfl
    · subst hk
      rw [hsend, passedOver_powerDown, hpassed]
      exact if_congr beq_iff_eq rfl rfl
    · subst hk
      intro up lead
      rw [passedOver_of (c := .powerUp fromDown thenStandby) nofun, hpassed] at hsend
      have hup : ∀ at_, settledAfter r fromDown s.tbu.lt = at_ → redundant r (.powerUp fromDown thenStandby) = false →
          dispatch s = up at_ := by
        rintro _ rfl hn
        rw [hsend, if_neg (by rw [hn]; exact nofun), send_powerUp]
        rfl
      refine ⟨fun hd hrec => ?_, fun hd => ?_, fun hd hrec hset => ?_, fun u hd hrec hset => ?_⟩
      · have hred : redundant r (.powerUp fromDown thenStandby) = true := by simp [redundant, hd, hrec]
        exact hsend.trans (if_pos hred)
      · exact hup _ (settledAfter_down hd) (redundant_powerUp (hd.imp_right fun hrec => by rw [hrec]; exact nofun))
      · exact hup _ ((settledAfter_standby hd hrec).trans (by rw [hset]))
          (redundant_powerUp (.inr (by rw [hrec]; exact nofun)))
      · exact hup _ ((settledAfter_standby hd hrec).trans (by rw [hset]))
          (redundant_powerUp (.inr (by rw [hrec]; exact nofun)))
  · intro trim
    have hpick : pickCmd s.rsq s.rsq.waiting = none :=
      pickCmd_none.2 fun c hc => Bool.eq_false_iff.2 (mt (hmay c).2 (hn c hc))
    have hserved : trimServed s = true ↔ trim := by
      simp [trimServed, trim, r, sequencing, and_assoc]
    have hsend := dispatch_none (hfree.1 h) (Bool.eq_false_iff.2 (mt howes.2 ho)) hpick
    refine ⟨fun ht => ?_, fun ht => ?_⟩
    · rw [hsend, if_pos (hserved.2 ht)]
      rfl
    · rw [hsend, if_neg (mt hserved.1 ht)]

end Sys2Proof.Machine
end
